-- ==== Sys2Proof/Word.lean ====
section
/-! DEFINITION. The widths of the block's values: a byte (00 R6), a 5-bit symbol value (10 R11), a length, count or
cursor register of `LEN_W = 32` bits (00 R5). -/

namespace Sys2Proof

/-- One byte of SRC or DST (00 R6). -/
abbrev Byte := BitVec 8

/-- One 5-bit symbol value, a working register `V[j]` (10 R11). -/
abbrev Sym := BitVec 5

/-- A register of `LEN_W = 32` bits (00 R5). -/
abbrev Word := BitVec 32

end Sys2Proof
end

