-- ==== Sys2Proof/Config.lean ====
section
/-! DEFINITION. What is fixed for one block: its two capacities (00 R5), and the free values that stand for everything
the spec calls `unspecified` (00 R7, 93 list 1). -/

namespace Sys2Proof

/-- The OPEN parameters of 00 R5. Their type states the constraints `SRC_CAP < 2^32` and `DST_CAP < 2^32`. -/
structure Config where
  /-- `SRC_CAP`, the capacity in bytes of SRC. -/
  srcCap : Word
  /-- `DST_CAP`, the capacity in bytes of DST. -/
  dstCap : Word
  deriving DecidableEq, Repr

/-- FREE VALUE (log entry 3): the byte at `index` of a buffer whose contents became unspecified at draw `epoch`
(10 R32, 60 R186). No body: nothing can be proved of it. -/
opaque Config.freeByte (epoch index : Nat) : Byte

/-- FREE VALUE (log entries 4 and 13): the unspecified word of draw `draw` (10 R14, R28). -/
opaque Config.freeWord (draw : Nat) : Word

/-- FREE VALUE (log entry 4): the unspecified working registers `V[0..7]` of draw `draw` (10 R11). -/
opaque Config.freeLanes (draw : Nat) : Vector Sym 8

end Sys2Proof
end

