-- ==== Sys2Proof/Machine/Memory.lean ====
section
/-! DEFINITION. A byte buffer (SRC, DST) as plain data: the list of the bytes that something has written, by strictly
rising index. An index that is not listed holds an unspecified byte (10 R32, 60 R186), which reads as a free value. -/

namespace Sys2Proof.Machine

/-- A buffer: the specified bytes, and the draw at which its other bytes became unspecified (log entry 3). -/
structure Memory where
  cells : List Host.Cell
  epoch : Nat
  deriving DecidableEq, Repr

/-- The listed byte at `i`. -/
def findCell (i : Nat) : List Host.Cell → Option Byte
  | [] => none
  | (j, b) :: rest => if j = i then some b else findCell i rest

/-- List the byte `b` at `i`, in rising order of index. -/
def putCell (i : Nat) (b : Byte) : List Host.Cell → List Host.Cell
  | [] => [(i, b)]
  | (j, c) :: rest =>
    if i < j then (i, b) :: (j, c) :: rest
    else if i = j then (i, b) :: rest
    else (j, c) :: putCell i b rest

/-- Do the indices rise strictly, all of them at or above `lo`? -/
def risingFrom (lo : Nat) : List Host.Cell → Bool
  | [] => true
  | (j, _) :: rest => decide (lo ≤ j) && risingFrom (j + 1) rest

/-- The canonical form: indices strictly rising. An unlisted index reads as unspecified, which no listed byte is, so
there is no entry equal to what an unlisted index reads as. -/
def Memory.wf (m : Memory) : Bool := risingFrom 0 m.cells

/-- Are all listed indices below the capacity `cap`? -/
def Memory.within (m : Memory) (cap : Nat) : Bool := m.cells.all fun cell => decide (cell.1 < cap)

/-- What an unlisted index reads as: an unspecified byte, a free value (log entry 3). -/
def Memory.unlisted (m : Memory) (i : Nat) : Byte := Config.freeByte m.epoch i

/-- The byte at `i` where it is specified. -/
def Memory.byte? (m : Memory) (i : Nat) : Option Byte := findCell i m.cells

/-- The byte a read of index `i` returns. -/
def Memory.read (m : Memory) (i : Nat) : Byte := (m.byte? i).getD (m.unlisted i)

/-- Write one byte (00 R7). -/
def Memory.write (m : Memory) (i : Nat) (b : Byte) : Memory := { m with cells := putCell i b m.cells }

/-- Write a run of bytes upward from `i`, in ascending index order (20 R46). -/
def Memory.writeRun (m : Memory) (i : Nat) : List Byte → Memory
  | [] => m
  | b :: rest => (m.write i b).writeRun (i + 1) rest

/-- A buffer every byte of which is unspecified (10 R32, 60 R186). -/
def Memory.unspecified (epoch : Nat) : Memory := { cells := [], epoch := epoch }

end Sys2Proof.Machine
end

