-- ==== Sys2Proof/Machine/State.lean ====
section
/-! DEFINITION. The whole state of one block (10 R10), its reset value (10 R32), and the ways a step can stop. -/

namespace Sys2Proof.Machine

/-- The control state of 10 R13; its encoding is not defined (93 U12). -/
inductive Phase where
  | idle
  | scan
  | geom
  | unpack
  | done
  | error
  deriving DecidableEq, Repr

/-- ERR_CODE as an enumeration (10 R19, 92 D9): none recorded, or one of the three errors of 60 R180. -/
inductive ErrCode where
  | none
  | invalidCharacter
  | invalidTrailingQuantumLength
  | allocationFailure
  deriving DecidableEq, Repr

/-- What the host does between two steps of the block (43 R170, 10 R16); log entry 6. -/
inductive HostAction where
  /-- The host does nothing: the block may take its step. -/
  | wait
  /-- Write `value` to register `number`. -/
  | writeReg (number : Nat) (value : BitVec 32)
  /-- Read register `number`. -/
  | readReg (number : Nat)
  /-- Write `value` at byte offset `offset` of REG. -/
  | writeBus (offset : Nat) (value : BitVec 32)
  /-- Read at byte offset `offset` of REG. -/
  | readBus (offset : Nat)
  /-- Write the byte `value` to `SRC[index]`. -/
  | writeSrc (index : Nat) (value : Byte)
  /-- Write the byte `value` to `DST[index]`. -/
  | writeDst (index : Nat) (value : Byte)
  /-- Read `DST[index]`. -/
  | readDst (index : Nat)
  /-- Apply reset. -/
  | reset
  deriving DecidableEq, Repr

/-- The state of one block. The first group is the spec's (10 R10); `cfg` is the parameters of the step (00 R5), which no
step writes; the last group is the model's own (INVENTORY.md, log entries 4 to 6). -/
structure State where
  /-- SRC_CAP and DST_CAP (00 R5). -/
  cfg : Config
  /-- PHASE (10 R13). -/
  phase : Phase
  /-- ERR_CODE (10 R19). -/
  errCode : ErrCode
  /-- ERR_POS (10 R20). -/
  errPos : Word
  /-- SRC_LEN (10 R21). -/
  srcLen : Word
  /-- DST_LEN (10 R22). -/
  dstLen : Word
  /-- PAD_COUNT (10 R23). -/
  padCount : Word
  /-- LF_COUNT (10 R24). -/
  lfCount : Word
  /-- CONTENT_LEN (10 R25). -/
  contentLen : Word
  /-- FULL_QUANTA (10 R26). -/
  fullQuanta : Word
  /-- TRAILING_LEN (10 R27). -/
  trailingLen : BitVec 3
  /-- SRC_CURSOR (10 R12). -/
  srcCursor : Word
  /-- DST_CURSOR (10 R12). -/
  dstCursor : Word
  /-- SCAN_IDX (10 R14). -/
  scanIdx : Word
  /-- V[0..7] (10 R11). -/
  v : Vector Sym 8
  /-- SRC (10 R29). -/
  src : Memory
  /-- DST (10 R30). -/
  dst : Memory
  /-- MODEL'S OWN: the loop variable `j` of 43 R158. -/
  lane : BitVec 3
  /-- MODEL'S OWN: SIZE (40 R98) on its way from the trailing-length rule to PV.ALLOC. -/
  size : Nat
  /-- MODEL'S OWN: the host's pending actions, oldest first. -/
  inputs : List HostAction
  /-- MODEL'S OWN: what the last host read returned. -/
  busData : BitVec 32
  /-- MODEL'S OWN: how many free values have been drawn. -/
  draws : Nat
  deriving DecidableEq, Repr

/-- Why the machine stops with a fault. No run of the block reaches one by itself (10 R12, 20 R44, R46). -/
inductive Fault where
  /-- Raised by the SCAN and UNPACK steps on a SRC read outside `0 <= i < SRC_LEN` or SRC, and by a host write outside SRC
  (00 R7, 20 R44: the index does not exist). Safe. -/
  | srcIndexOutOfRange (index : Nat)
  /-- Raised by the unpack operations and by a host access at a DST index that does not exist (00 R7, 20 R46). Safe. -/
  | dstIndexOutOfRange (index : Nat)
  deriving DecidableEq, Repr

/-- Why a step has no meaning. -/
inductive Refusal where
  /-- Raised by exec for an instruction with no meaning yet. Safe. -/
  | notModelled (mnemonic : String)
  /-- Raised by an operation of format PHASE whose selector does not hold, which the block never performs then (30 R75,
  43 R154). Safe. -/
  | notSelected
  /-- Raised by the UNPACK step for a quantum length with no operation: the model refuses these values (42 R140). Safe. -/
  | noUnpackOperation (len : Nat)
  /-- Raised by CMD.START with SRC_LEN > SRC_CAP, which has no defined meaning (10 R21, 93 U5). Safe. -/
  | srcLenExceedsCapacity
  /-- Raised by a host write of SRC while BUSY, a run outside the spec (20 R50, 93 U6). Safe. -/
  | srcWriteWhileBusy
  /-- Raised by a host write of DST while BUSY, a run outside the spec (70 R216, 93 U6). Safe. -/
  | dstWriteWhileBusy
  /-- Raised by a host access at a byte offset that is not `4 * n` (10 R16: one access is one entire register). Safe. -/
  | offsetNotARegister (offset : Nat)
  deriving DecidableEq, Repr

/-- The state after reset (10 R32). The values the spec leaves unspecified or that are the model's own are named in log
entries 1 to 3. -/
def State.reset : State where
  cfg := { srcCap := 32#32, dstCap := 16#32 }
  phase := .idle
  errCode := .none
  errPos := 0#32
  srcLen := 0#32
  dstLen := 0#32
  padCount := 0#32
  lfCount := 0#32
  contentLen := 0#32
  fullQuanta := 0#32
  trailingLen := 0#3
  srcCursor := 0#32
  dstCursor := 0#32
  scanIdx := 0#32
  v := Vector.replicate 8 0#5
  src := Memory.unspecified 0
  dst := Memory.unspecified 1
  lane := 0#3
  size := 0
  inputs := []
  busData := 0#32
  draws := 2

/-- What every meaning answers. -/
abbrev Result := Host.Outcome State Fault Refusal

end Sys2Proof.Machine
end

