-- ==== Sys2Proof/Machine/Flags.lean ====
section
/-! DEFINITION. The status flags, which are functions of PHASE (10 R15), and the STATUS register (10 R18). No operation
sets or reads a flag. -/

namespace Sys2Proof.Machine

/-- BUSY (10 R15). -/
def State.busy (s : State) : Bool :=
  match s.phase with
  | .scan | .geom | .unpack => true
  | .idle | .done | .error => false

/-- DONE (10 R15). -/
def State.done (s : State) : Bool :=
  match s.phase with
  | .done => true
  | .idle | .scan | .geom | .unpack | .error => false

/-- ERR (10 R15). -/
def State.err (s : State) : Bool :=
  match s.phase with
  | .error => true
  | .idle | .scan | .geom | .unpack | .done => false

/-- STATUS: bit 0 BUSY, bit 1 DONE, bit 2 ERR (10 R18). -/
def State.status (s : State) : BitVec 3 :=
  BitVec.ofBool s.err ++ BitVec.ofBool s.done ++ BitVec.ofBool s.busy

/-- The number of an error in ERR_CODE (10 R19, 60 R180). -/
def ErrCode.code : ErrCode → BitVec 2
  | .none => 0#2
  | .invalidCharacter => 1#2
  | .invalidTrailingQuantumLength => 2#2
  | .allocationFailure => 3#2

end Sys2Proof.Machine
end

