-- ==== Sys2Proof/Machine/Symbol.lean ====
section
/-! DEFINITION. The symbol decoder unit SD: the combinational function of one byte of 41 R110, by the ranges of
41 R111 to R116 and the arithmetic of 30 R66. It has no state (41 R110). -/

namespace Sys2Proof.Machine

/-- The six classes of 41 R110. -/
inductive SymClass where
  | upper
  | lower
  | digit
  | pad
  | lf
  | invalid
  deriving DecidableEq, Repr

/-- The pair (class, value) of 41 R110: a value exists for the first three classes only. -/
inductive Symbol where
  | upper (value : Sym)
  | lower (value : Sym)
  | digit (value : Sym)
  | pad
  | lf
  | invalid
  deriving DecidableEq, Repr

/-- The class half of a symbol. -/
def Symbol.cls : Symbol → SymClass
  | .upper _ => .upper
  | .lower _ => .lower
  | .digit _ => .digit
  | .pad => .pad
  | .lf => .lf
  | .invalid => .invalid

/-- The value half of a symbol; none for PAD, LF and INVALID (41 R110). -/
def Symbol.value? : Symbol → Option Sym
  | .upper v => some v
  | .lower v => some v
  | .digit v => some v
  | .pad => none
  | .lf => none
  | .invalid => none

/-- The symbol decoder of 41 R110 on the byte `c`: the selectors of 41 R111 to R116, all eight bits compared
(30 R61), the values of 30 R66. -/
def symbolOf (c : Byte) : Symbol :=
  if 0x41#8 ≤ c ∧ c ≤ 0x5A#8 then .upper ((c - 0x41#8).setWidth 5)
  else if 0x61#8 ≤ c ∧ c ≤ 0x7A#8 then .lower ((c - 0x61#8).setWidth 5)
  else if 0x32#8 ≤ c ∧ c ≤ 0x37#8 then .digit ((c - 0x32#8 + 26#8).setWidth 5)
  else if c = 0x3D#8 then .pad
  else if c = 0x0A#8 then .lf
  else .invalid

/-- `class(c)` (41 R110). -/
def classOf (c : Byte) : SymClass := (symbolOf c).cls

/-- `value(c)` (41 R110). -/
def valueOf (c : Byte) : Option Sym := (symbolOf c).value?

/-- Is the byte a trailer byte, `=` or LF (40 R80)? -/
def isTrailerByte (c : Byte) : Bool := c == 0x3D#8 || c == 0x0A#8

end Sys2Proof.Machine
end

