-- ==== Sys2Proof/Machine/Operands.lean ====
section
/-! DEFINITION. The operands of the block's operations: a SRC byte, the geometry of the content (40 R85 to R87), the
trailing-length table (40 section 3), the quantum word and its bytes (30 R62, 42 R130), and the register map (10 R16). -/

namespace Sys2Proof.Machine

/-- `SRC[i]`, defined for `0 <= i < SRC_LEN` only (00 R7, 20 R44); the buffer has SRC_CAP bytes (10 R29). -/
def State.srcByte (s : State) (i : Nat) : Except Fault Byte :=
  if i < s.srcLen.toNat ∧ i < s.cfg.srcCap.toNat then .ok (s.src.read i) else .error (.srcIndexOutOfRange i)

/-- `CONTENT_LEN div 8`, which is `CONTENT_LEN[31:3]` (40 R86, R89). -/
def fullQuantaOf (contentLen : Word) : Word := contentLen >>> 3

/-- `CONTENT_LEN mod 8`, which is `CONTENT_LEN[2:0]` (40 R87, R89). -/
def trailingLenOf (contentLen : Word) : BitVec 3 := contentLen.setWidth 3

/-- The bytes a trailing length contributes (`tbl`, 40 R90 to R97); none for the invalid lengths 1, 3, 6. -/
def tbl (len : BitVec 3) : Option Nat :=
  match len.toNat with
  | 0 => some 0
  | 2 => some 1
  | 4 => some 2
  | 5 => some 3
  | 7 => some 4
  | _ => none

/-- `SIZE = 5 * FULL_QUANTA + bytes` (40 R98), a natural: the sum cannot wrap (40 R89). -/
def contributedSize (fullQuanta : Word) (bytes : Nat) : Nat := 5 * fullQuanta.toNat + bytes

/-- The number of characters of the quantum an UNPACK step handles, `min(8, CONTENT_LEN - SRC_CURSOR)` (30 R64, R72). -/
def State.quantumLength (s : State) : Nat := min 8 (s.contentLen.toNat - s.srcCursor.toNat)

/-- `m(n)`, the bytes a quantum of `n` characters emits (42 R130). -/
def bytesOut (n : Nat) : Nat :=
  match n with
  | 8 => 5
  | 7 => 4
  | 5 => 3
  | 4 => 2
  | 2 => 1
  | _ => 0

/-- Lane `j` of a quantum of `n` characters, absent lanes zero (42 R130). -/
def laneOf (n : Nat) (v : Vector Sym 8) (j : Fin 8) : Sym := if j.val < n then v[j] else 0#5

/-- The 40-bit word `W` of a quantum of `n` characters, character 0 most significant (20 R42, 30 R62, 42 R130). -/
def quantumWord (n : Nat) (v : Vector Sym 8) : BitVec 40 :=
  laneOf n v 0 ++ laneOf n v 1 ++ laneOf n v 2 ++ laneOf n v 3 ++
    laneOf n v 4 ++ laneOf n v 5 ++ laneOf n v 6 ++ laneOf n v 7

/-- Candidate byte `Bk = W[39 - 8k : 32 - 8k]` (20 R42, 42 R130). -/
def quantumByte (w : BitVec 40) (k : Nat) : Byte := w.extractLsb' (32 - 8 * k) 8

/-- The bytes a quantum of `n` characters emits, `B0` first (42 R130). -/
def quantumBytes (n : Nat) (v : Vector Sym 8) : List Byte :=
  (List.range (bytesOut n)).map (quantumByte (quantumWord n v))

/-- The width of register `n` (10 R16 map); 0 above register 12. -/
def regWidth (n : Nat) : Nat :=
  match n with
  | 1 => 3
  | 2 => 2
  | 10 => 3
  | n => if n ≤ 12 then 32 else 0

/-- The current value of register `n` on a 32-bit bus (10 R16): CTRL reads 0, bits above the width read 0, a number above 12
reads 0. -/
def State.regValue (s : State) (n : Nat) : BitVec 32 :=
  match n with
  | 1 => s.status.setWidth 32
  | 2 => s.errCode.code.setWidth 32
  | 3 => s.errPos
  | 4 => s.srcLen
  | 5 => s.dstLen
  | 6 => s.padCount
  | 7 => s.lfCount
  | 8 => s.contentLen
  | 9 => s.fullQuanta
  | 10 => s.trailingLen.setWidth 32
  | 11 => s.srcCursor
  | 12 => s.dstCursor
  | _ => 0#32

/-- The low `width` bits of a word, zero-extended: any value of a register's width (10 R28). -/
def lowBits (width : Nat) (x : Word) : BitVec 32 := (x.setWidth width).setWidth 32

end Sys2Proof.Machine
end

