-- ==== Sys2Proof/Machine/Ops.lean ====
section
/-! DEFINITION. The shared operations: error entry and the ways out of it (60 R186, R188), the bounds of a step, the two
uses of a symbol (40 R81 to R83, 43 R158), and the store of a quantum's bytes (42 R137). -/

namespace Sys2Proof.Machine

/-! ### Error entry and return -/

/-- `raise E(info)` (60 R186): the code, the position (0 unless InvalidCharacter), DST_LEN, PHASE, and every byte of DST
unspecified from now on. -/
def State.raised (s : State) (e : ErrCode) (pos : Word) : State :=
  { s with
    errCode := e
    errPos := pos
    dstLen := 0#32
    phase := .error
    dst := Memory.unspecified s.draws
    draws := s.draws + 1 }

/-- The result registers that START and CLEAR zero alike (43 R153, R155). -/
def State.zeroed (s : State) : State :=
  { s with
    errCode := .none
    errPos := 0#32
    dstLen := 0#32
    padCount := 0#32
    lfCount := 0#32
    contentLen := 0#32
    fullQuanta := 0#32
    trailingLen := 0#3
    srcCursor := 0#32
    dstCursor := 0#32 }

/-- START accepted (43 R155). -/
def State.started (s : State) : State := { s.zeroed with scanIdx := s.srcLen, phase := .scan }

/-- CLEAR accepted (43 R153), the way out of ERROR that starts nothing (60 R188). -/
def State.cleared (s : State) : State := { s.zeroed with phase := .idle }

/-- Reset applied (70 R210, R211): 10 R32, the unspecified parts drawn anew (log entry 4). The parameters and the host's
later actions are not the block's. -/
def State.resetApplied (s : State) : State :=
  { State.reset with
    cfg := s.cfg
    scanIdx := Config.freeWord s.draws
    v := Config.freeLanes s.draws
    src := Memory.unspecified s.draws
    dst := Memory.unspecified (s.draws + 1)
    inputs := s.inputs
    busData := s.busData
    draws := s.draws + 2 }

/-! ### The bounds of a step -/

/-- Perform the operation only where its selector holds (30 R75). -/
def ifSelected (sel : Bool) (r : Result) : Result := if sel then r else .refused .notSelected

/-- Go on with the next action of the same step, unless an error was raised: then nothing after it executes (00 R7,
43 R160). -/
def andThen (r : Result) (f : State → Result) : Result :=
  match r with
  | .next s => if s.phase = .error then .next s else f s
  | .fault x => .fault x
  | .refused x => .refused x

/-- What a GEOM or UNPACK step leaves in the registers that mean nothing after it: SCAN_IDX and `V[0..7]` unspecified
(10 R11, R14; log entry 4), the step's own scratch empty (log entry 5). -/
def State.stepEnded (s : State) : State :=
  { s with
    scanIdx := Config.freeWord s.draws
    v := Config.freeLanes s.draws
    lane := 0#3
    size := 0
    draws := s.draws + 1 }

/-- The end of a GEOM or UNPACK step. -/
def endStep (r : Result) : Result :=
  match r with
  | .next s => .next s.stepEnded
  | .fault x => .fault x
  | .refused x => .refused x

/-! ### The two uses of a symbol -/

/-- 40 R81: one padding byte. -/
def State.padScanned (s : State) : State := { s with padCount := s.padCount + 1#32, scanIdx := s.scanIdx - 1#32 }

/-- 40 R82: one newline byte. -/
def State.lfScanned (s : State) : State := { s with lfCount := s.lfCount + 1#32, scanIdx := s.scanIdx - 1#32 }

/-- 40 R83: the end of the scan. -/
def State.scanEnded (s : State) : State := { s with phase := .geom }

/-- The scan's use of a symbol: exactly one of 40 R81, R82, R83 applies (43 R156). DESIGN CHOICE (log entry 27): performed
alone it does so whatever byte stands at `SCAN_IDX - 1`. -/
def scanSymbol (x : Symbol) (s : State) : State :=
  if s.scanIdx = 0#32 then s.scanEnded
  else
    match x.cls with
    | .pad => s.padScanned
    | .lf => s.lfScanned
    | .upper | .lower | .digit | .invalid => s.scanEnded

/-- `V[j] <- value(c)` for the character `j` the UNPACK step is at, then the next character (43 R158). -/
def State.laneLoaded (s : State) (x : Sym) : State :=
  { s with v := s.v.set s.lane.toNat x s.lane.isLt, lane := s.lane + 1#3 }

/-- The UNPACK step's use of a symbol (43 R158, 41 R117): a value is loaded, anything else raises InvalidCharacter at
`SRC_CURSOR + j`. DESIGN CHOICE (log entry 27): performed alone it does so whether or not a content character, this one or
another, stands there. -/
def contentSymbol (x : Symbol) (s : State) : State :=
  match x.value? with
  | some v => s.laneLoaded v
  | none => s.raised .invalidCharacter (s.srcCursor + s.lane.setWidth 32)

/-- A symbol's effect by where its byte stands (41 R117; log entry 10): in SCAN it is looked at from the end of the input,
in UNPACK it is content, and in the other phases the symbol decoder has no side effect (41 R110). -/
def presentSymbol (x : Symbol) (s : State) : Result :=
  match s.phase with
  | .scan => .next (scanSymbol x s)
  | .unpack => .next (contentSymbol x s)
  | .idle | .geom | .done | .error => .next s

/-! ### Trailing length and unpacking -/

/-- A valid trailing length that contributes `bytes` bytes: SIZE is known (40 R98). DESIGN CHOICE (log entry 26): performed
alone it does so whatever PHASE and TRAILING_LEN are. -/
def contribute (bytes : Nat) (s : State) : Result := .next { s with size := contributedSize s.fullQuanta bytes }

/-- An invalid trailing length (40 R91, R93, R96; 60 R182). DESIGN CHOICE (log entry 26): performed alone it raises whatever
PHASE and TRAILING_LEN are, also over an error already recorded. -/
def rejectLength (s : State) : Result := .next (s.raised .invalidTrailingQuantumLength 0#32)

/-- Store a run of bytes to `DST[DST_CURSOR ..]` in ascending order (42 R137); an index at or above DST_CAP does not exist
(00 R7). DESIGN CHOICE (log entry 26): performed alone it does so whatever PHASE and the quantum at SRC_CURSOR are. -/
def storeBytes (bs : List Byte) (s : State) : Result :=
  if s.dstCursor.toNat + bs.length ≤ s.cfg.dstCap.toNat then
    .next { s with dst := s.dst.writeRun s.dstCursor.toNat bs }
  else .fault (.dstIndexOutOfRange (max s.dstCursor.toNat s.cfg.dstCap.toNat))

end Sys2Proof.Machine
end

