-- ==== Sys2Proof/Machine/Commands.lean ====
section
/-! DEFINITION. The two commands (43 R152, R153). -/

namespace Sys2Proof.Machine

/-- CMD.START (43 R152): ignored while BUSY; accepted otherwise (43 R155); with SRC_LEN > SRC_CAP it has no defined
meaning and is refused (10 R21, 93 U5). -/
def execCmdStart (s : State) : Host.Outcome State Fault Refusal :=
  if s.busy then .next s
  else if s.cfg.srcCap.toNat < s.srcLen.toNat then .refused .srcLenExceedsCapacity
  else .next s.started

/-- CMD.CLEAR (43 R153): ignored while BUSY. -/
def execCmdClear (s : State) : Host.Outcome State Fault Refusal :=
  if s.busy then .next s else .next s.cleared

end Sys2Proof.Machine
end

