-- ==== Sys2Proof/Syntax.lean ====
section
/-! DEFINITION. Every operation of the block as a term: one constructor per row of spec/opcode_table.json, in the
table's order, and the formats whose bit patterns select them (30 R60, R67, R75). -/

namespace Sys2Proof

/-- The operations of 30 R67 (selected by a bit pattern) and 30 R75 (selected by PHASE). -/
inductive Instr where
  -- 41 R111: the codes 0x41 to 0x5A
  | symUpperA
  | symUpperB
  | symUpperC
  | symUpperD
  | symUpperE
  | symUpperF
  | symUpperG
  | symUpperH
  | symUpperI
  | symUpperJ
  | symUpperK
  | symUpperL
  | symUpperM
  | symUpperN
  | symUpperO
  | symUpperP
  | symUpperQ
  | symUpperR
  | symUpperS
  | symUpperT
  | symUpperU
  | symUpperV
  | symUpperW
  | symUpperX
  | symUpperY
  | symUpperZ
  -- 41 R112: the codes 0x61 to 0x7A
  | symLowerA
  | symLowerB
  | symLowerC
  | symLowerD
  | symLowerE
  | symLowerF
  | symLowerG
  | symLowerH
  | symLowerI
  | symLowerJ
  | symLowerK
  | symLowerL
  | symLowerM
  | symLowerN
  | symLowerO
  | symLowerP
  | symLowerQ
  | symLowerR
  | symLowerS
  | symLowerT
  | symLowerU
  | symLowerV
  | symLowerW
  | symLowerX
  | symLowerY
  | symLowerZ
  -- 41 R113: the codes 0x32 to 0x37
  | symDigit2
  | symDigit3
  | symDigit4
  | symDigit5
  | symDigit6
  | symDigit7
  -- 41 R114: the code 0x3D
  | symPad
  -- 41 R115: the code 0x0A
  | symLf
  -- 41 R116: the other 196 codes; the code is the operand
  | symInvalid (code : Byte)
  -- 40 R90 to R97: the trailing length
  | pvTL0
  | pvTL1
  | pvTL2
  | pvTL3
  | pvTL4
  | pvTL5
  | pvTL6
  | pvTL7
  -- 42 R131 to R135: the quantum length
  | quUnpack8
  | quUnpack7
  | quUnpack5
  | quUnpack4
  | quUnpack2
  -- 43 R152, R153: the command words
  | cmdStart
  | cmdClear
  -- 30 R75: the operations that PHASE selects
  | pvScanPad
  | pvScanLf
  | pvScanEnd
  | pvGeomContent
  | pvGeomQuanta
  | pvGeomTrailing
  | pvAlloc
  | stepGeom
  | stepUnpack
  | stepDone
  deriving DecidableEq, Repr

/-- A bit pattern of one of the four formats that select an operation (30 R61, R63, R64, R65). `Q40` (30 R62) is a data
layout and selects nothing. -/
inductive Encoding where
  | sym8 (code : BitVec 8)
  | tlen3 (len : BitVec 3)
  | qlen4 (len : BitVec 4)
  | ctrl32 (word : BitVec 32)
  deriving DecidableEq, Repr

/-- The names of the four formats (30 R60). -/
inductive Format where
  | sym8
  | tlen3
  | qlen4
  | ctrl32
  deriving DecidableEq, Repr

/-- The format a bit pattern stands in. -/
def Encoding.format : Encoding → Format
  | .sym8 _ => .sym8
  | .tlen3 _ => .tlen3
  | .qlen4 _ => .qlen4
  | .ctrl32 _ => .ctrl32

end Sys2Proof
end

