-- ==== Sys2Proof/WellFormed.lean ====
section
/-! DEFINITION. Which terms of `Instr` are operations of the block: every term but an INVALID symbol whose code one of the
60 accepted codes takes (41 R116). -/

namespace Sys2Proof

/-- The check of 41 R116: SYM.INVALID stands only for the codes that no other SYM row selects. Every other row has no
operand. -/
def Instr.wellFormed : Instr → Bool
  | .symInvalid code => Machine.classOf code == .invalid
  | .symUpperA => true
  | .symUpperB => true
  | .symUpperC => true
  | .symUpperD => true
  | .symUpperE => true
  | .symUpperF => true
  | .symUpperG => true
  | .symUpperH => true
  | .symUpperI => true
  | .symUpperJ => true
  | .symUpperK => true
  | .symUpperL => true
  | .symUpperM => true
  | .symUpperN => true
  | .symUpperO => true
  | .symUpperP => true
  | .symUpperQ => true
  | .symUpperR => true
  | .symUpperS => true
  | .symUpperT => true
  | .symUpperU => true
  | .symUpperV => true
  | .symUpperW => true
  | .symUpperX => true
  | .symUpperY => true
  | .symUpperZ => true
  | .symLowerA => true
  | .symLowerB => true
  | .symLowerC => true
  | .symLowerD => true
  | .symLowerE => true
  | .symLowerF => true
  | .symLowerG => true
  | .symLowerH => true
  | .symLowerI => true
  | .symLowerJ => true
  | .symLowerK => true
  | .symLowerL => true
  | .symLowerM => true
  | .symLowerN => true
  | .symLowerO => true
  | .symLowerP => true
  | .symLowerQ => true
  | .symLowerR => true
  | .symLowerS => true
  | .symLowerT => true
  | .symLowerU => true
  | .symLowerV => true
  | .symLowerW => true
  | .symLowerX => true
  | .symLowerY => true
  | .symLowerZ => true
  | .symDigit2 => true
  | .symDigit3 => true
  | .symDigit4 => true
  | .symDigit5 => true
  | .symDigit6 => true
  | .symDigit7 => true
  | .symPad => true
  | .symLf => true
  | .pvTL0 => true
  | .pvTL1 => true
  | .pvTL2 => true
  | .pvTL3 => true
  | .pvTL4 => true
  | .pvTL5 => true
  | .pvTL6 => true
  | .pvTL7 => true
  | .quUnpack8 => true
  | .quUnpack7 => true
  | .quUnpack5 => true
  | .quUnpack4 => true
  | .quUnpack2 => true
  | .cmdStart => true
  | .cmdClear => true
  | .pvScanPad => true
  | .pvScanLf => true
  | .pvScanEnd => true
  | .pvGeomContent => true
  | .pvGeomQuanta => true
  | .pvGeomTrailing => true
  | .pvAlloc => true
  | .stepGeom => true
  | .stepUnpack => true
  | .stepDone => true

end Sys2Proof
end

