-- ==== Sys2Proof/Decode.lean ====
section
/-! DEFINITION. The decoder and the encoder of the four formats that select an operation (30 R60 to R71), over bit
patterns and over the bytes that hold them, and the reading of the opcode table's own words. -/

namespace Sys2Proof

/-- Why a bit pattern selects no operation. Nothing in the machine acts on a rejected pattern. -/
inductive Reject where
  /-- A CTRL32 value other than 1 and 2 (30 R71): safe, a write of it has no effect. -/
  | reservedCommand (word : BitVec 32)
  /-- A QLEN4 value with no unpack operation (42 R140): safe, no run reaches it. -/
  | noUnpackOperation (len : BitVec 4)
  /-- The bytes are not as many as the format's one pattern takes (30 R60: all formats are fixed-length). -/
  | wrongByteCount (count : Nat)
  /-- A byte that holds a 3-bit or 4-bit code has a bit set above it (log entry 19). -/
  | strayBits (byte : Byte)
  deriving DecidableEq, Repr

/-- Format SYM8 (30 R61, 41 section 3): total, every code no other row takes is SYM.INVALID. -/
def decodeSym8 (code : BitVec 8) : Instr :=
  match code.toNat with
  | 0x41 => .symUpperA
  | 0x42 => .symUpperB
  | 0x43 => .symUpperC
  | 0x44 => .symUpperD
  | 0x45 => .symUpperE
  | 0x46 => .symUpperF
  | 0x47 => .symUpperG
  | 0x48 => .symUpperH
  | 0x49 => .symUpperI
  | 0x4A => .symUpperJ
  | 0x4B => .symUpperK
  | 0x4C => .symUpperL
  | 0x4D => .symUpperM
  | 0x4E => .symUpperN
  | 0x4F => .symUpperO
  | 0x50 => .symUpperP
  | 0x51 => .symUpperQ
  | 0x52 => .symUpperR
  | 0x53 => .symUpperS
  | 0x54 => .symUpperT
  | 0x55 => .symUpperU
  | 0x56 => .symUpperV
  | 0x57 => .symUpperW
  | 0x58 => .symUpperX
  | 0x59 => .symUpperY
  | 0x5A => .symUpperZ
  | 0x61 => .symLowerA
  | 0x62 => .symLowerB
  | 0x63 => .symLowerC
  | 0x64 => .symLowerD
  | 0x65 => .symLowerE
  | 0x66 => .symLowerF
  | 0x67 => .symLowerG
  | 0x68 => .symLowerH
  | 0x69 => .symLowerI
  | 0x6A => .symLowerJ
  | 0x6B => .symLowerK
  | 0x6C => .symLowerL
  | 0x6D => .symLowerM
  | 0x6E => .symLowerN
  | 0x6F => .symLowerO
  | 0x70 => .symLowerP
  | 0x71 => .symLowerQ
  | 0x72 => .symLowerR
  | 0x73 => .symLowerS
  | 0x74 => .symLowerT
  | 0x75 => .symLowerU
  | 0x76 => .symLowerV
  | 0x77 => .symLowerW
  | 0x78 => .symLowerX
  | 0x79 => .symLowerY
  | 0x7A => .symLowerZ
  | 0x32 => .symDigit2
  | 0x33 => .symDigit3
  | 0x34 => .symDigit4
  | 0x35 => .symDigit5
  | 0x36 => .symDigit6
  | 0x37 => .symDigit7
  | 0x3D => .symPad
  | 0x0A => .symLf
  | _ => .symInvalid code

/-- Format TLEN3 (30 R63): total, there are no reserved values (30 R70). -/
def decodeTlen3 (len : BitVec 3) : Instr :=
  match len.toNat with
  | 0 => .pvTL0
  | 1 => .pvTL1
  | 2 => .pvTL2
  | 3 => .pvTL3
  | 4 => .pvTL4
  | 5 => .pvTL5
  | 6 => .pvTL6
  | _ => .pvTL7

/-- Format QLEN4 (30 R64): 8, 7, 5, 4, 2; the other values have no operation (42 R140). -/
def decodeQlen4 (len : BitVec 4) : Except Reject Instr :=
  match len.toNat with
  | 8 => .ok .quUnpack8
  | 7 => .ok .quUnpack7
  | 5 => .ok .quUnpack5
  | 4 => .ok .quUnpack4
  | 2 => .ok .quUnpack2
  | _ => .error (.noUnpackOperation len)

/-- Format CTRL32 (30 R65), compared whole: 1 and 2; every other value is reserved (30 R71). -/
def decodeCtrl32 (word : BitVec 32) : Except Reject Instr :=
  match word.toNat with
  | 1 => .ok .cmdStart
  | 2 => .ok .cmdClear
  | _ => .error (.reservedCommand word)

/-- The operation a bit pattern selects. -/
def decode : Encoding → Except Reject Instr
  | .sym8 code => .ok (decodeSym8 code)
  | .tlen3 len => .ok (decodeTlen3 len)
  | .qlen4 len => decodeQlen4 len
  | .ctrl32 word => decodeCtrl32 word

/-- A code of `width` bits held in a whole byte, the bits above it zero. -/
def narrowCode (width : Nat) (b : Byte) : Except Reject (BitVec width) :=
  if b.toNat < 2 ^ width then .ok (b.setWidth width) else .error (.strayBits b)

/-- The bit pattern that a run of bytes holds in a format: one byte for the narrow formats, four for the command word,
its least significant byte first (log entry 19). -/
def encodingOfBytes : Format → List Byte → Except Reject Encoding
  | .sym8, [b] => .ok (.sym8 b)
  | .tlen3, [b] => (narrowCode 3 b).map .tlen3
  | .qlen4, [b] => (narrowCode 4 b).map .qlen4
  | .ctrl32, [b0, b1, b2, b3] => .ok (.ctrl32 (b3 ++ b2 ++ b1 ++ b0))
  | _, bs => .error (.wrongByteCount bs.length)

/-- The bytes that hold a bit pattern. -/
def bytesOf : Encoding → List Byte
  | .sym8 code => [code]
  | .tlen3 len => [len.setWidth 8]
  | .qlen4 len => [len.setWidth 8]
  | .ctrl32 word => [word.extractLsb' 0 8, word.extractLsb' 8 8, word.extractLsb' 16 8, word.extractLsb' 24 8]

/-- The decoder on bytes: total, rejecting by name. -/
def decodeBytes (f : Format) (bs : List Byte) : Except Reject Instr :=
  match encodingOfBytes f bs with
  | .ok e => decode e
  | .error r => .error r

/-- The bit pattern of an operation, from the tables of 30 R67 and 41 section 3. None for the rows that no bit pattern
selects (30 R75). -/
def encode : Instr → Option Encoding
  | .symUpperA => some (.sym8 0x41#8)
  | .symUpperB => some (.sym8 0x42#8)
  | .symUpperC => some (.sym8 0x43#8)
  | .symUpperD => some (.sym8 0x44#8)
  | .symUpperE => some (.sym8 0x45#8)
  | .symUpperF => some (.sym8 0x46#8)
  | .symUpperG => some (.sym8 0x47#8)
  | .symUpperH => some (.sym8 0x48#8)
  | .symUpperI => some (.sym8 0x49#8)
  | .symUpperJ => some (.sym8 0x4A#8)
  | .symUpperK => some (.sym8 0x4B#8)
  | .symUpperL => some (.sym8 0x4C#8)
  | .symUpperM => some (.sym8 0x4D#8)
  | .symUpperN => some (.sym8 0x4E#8)
  | .symUpperO => some (.sym8 0x4F#8)
  | .symUpperP => some (.sym8 0x50#8)
  | .symUpperQ => some (.sym8 0x51#8)
  | .symUpperR => some (.sym8 0x52#8)
  | .symUpperS => some (.sym8 0x53#8)
  | .symUpperT => some (.sym8 0x54#8)
  | .symUpperU => some (.sym8 0x55#8)
  | .symUpperV => some (.sym8 0x56#8)
  | .symUpperW => some (.sym8 0x57#8)
  | .symUpperX => some (.sym8 0x58#8)
  | .symUpperY => some (.sym8 0x59#8)
  | .symUpperZ => some (.sym8 0x5A#8)
  | .symLowerA => some (.sym8 0x61#8)
  | .symLowerB => some (.sym8 0x62#8)
  | .symLowerC => some (.sym8 0x63#8)
  | .symLowerD => some (.sym8 0x64#8)
  | .symLowerE => some (.sym8 0x65#8)
  | .symLowerF => some (.sym8 0x66#8)
  | .symLowerG => some (.sym8 0x67#8)
  | .symLowerH => some (.sym8 0x68#8)
  | .symLowerI => some (.sym8 0x69#8)
  | .symLowerJ => some (.sym8 0x6A#8)
  | .symLowerK => some (.sym8 0x6B#8)
  | .symLowerL => some (.sym8 0x6C#8)
  | .symLowerM => some (.sym8 0x6D#8)
  | .symLowerN => some (.sym8 0x6E#8)
  | .symLowerO => some (.sym8 0x6F#8)
  | .symLowerP => some (.sym8 0x70#8)
  | .symLowerQ => some (.sym8 0x71#8)
  | .symLowerR => some (.sym8 0x72#8)
  | .symLowerS => some (.sym8 0x73#8)
  | .symLowerT => some (.sym8 0x74#8)
  | .symLowerU => some (.sym8 0x75#8)
  | .symLowerV => some (.sym8 0x76#8)
  | .symLowerW => some (.sym8 0x77#8)
  | .symLowerX => some (.sym8 0x78#8)
  | .symLowerY => some (.sym8 0x79#8)
  | .symLowerZ => some (.sym8 0x7A#8)
  | .symDigit2 => some (.sym8 0x32#8)
  | .symDigit3 => some (.sym8 0x33#8)
  | .symDigit4 => some (.sym8 0x34#8)
  | .symDigit5 => some (.sym8 0x35#8)
  | .symDigit6 => some (.sym8 0x36#8)
  | .symDigit7 => some (.sym8 0x37#8)
  | .symPad => some (.sym8 0x3D#8)
  | .symLf => some (.sym8 0x0A#8)
  | .symInvalid code => some (.sym8 code)
  | .pvTL0 => some (.tlen3 0#3)
  | .pvTL1 => some (.tlen3 1#3)
  | .pvTL2 => some (.tlen3 2#3)
  | .pvTL3 => some (.tlen3 3#3)
  | .pvTL4 => some (.tlen3 4#3)
  | .pvTL5 => some (.tlen3 5#3)
  | .pvTL6 => some (.tlen3 6#3)
  | .pvTL7 => some (.tlen3 7#3)
  | .quUnpack8 => some (.qlen4 8#4)
  | .quUnpack7 => some (.qlen4 7#4)
  | .quUnpack5 => some (.qlen4 5#4)
  | .quUnpack4 => some (.qlen4 4#4)
  | .quUnpack2 => some (.qlen4 2#4)
  | .cmdStart => some (.ctrl32 1#32)
  | .cmdClear => some (.ctrl32 2#32)
  | .pvScanPad => none
  | .pvScanLf => none
  | .pvScanEnd => none
  | .pvGeomContent => none
  | .pvGeomQuanta => none
  | .pvGeomTrailing => none
  | .pvAlloc => none
  | .stepGeom => none
  | .stepUnpack => none
  | .stepDone => none

/-- Which format a word of spec/opcode_table.json stands in, from its width and value alone, since the table's words carry
no format (log entry 9; PRESUMED). Up to 8 bits: an accepted symbol code, else a trailing length, else the quantum length 8,
else an invalid symbol code. The rows wider than 8 bits are symbol rows to which the reader of the table gave a `value`
field above the code; the code is their low byte. 32 bits: a command, unless only such a field stands above the code
of `Y`, `Z`, `y` or `z`. -/
def tableEncoding (nbits w : Nat) : Encoding :=
  let code : Byte := BitVec.ofNat 8 w
  if nbits ≤ 3 then .tlen3 (BitVec.ofNat 3 w)
  else if nbits = 4 then .qlen4 (BitVec.ofNat 4 w)
  else if nbits ≤ 8 then
    if Machine.classOf code ≠ .invalid then .sym8 code
    else if w < 8 then .tlen3 (BitVec.ofNat 3 w)
    else if w = 8 then .qlen4 8#4
    else .sym8 code
  else if nbits < 32 then .sym8 code
  else if code.toNat ∈ [0x59, 0x5A, 0x79, 0x7A] ∧ w / 256 % 65536 = 0 ∧ w / 16777216 ≤ 3 then .sym8 code
  else .ctrl32 (BitVec.ofNat 32 w)

/-- The instruction that the decoder reads from a word of the opcode table (the host's question). -/
def decodeTableWord (nbits w : Nat) : Option Instr :=
  match decode (tableEncoding nbits w) with
  | .ok i => some i
  | .error _ => none

end Sys2Proof
end

