-- ==== Sys2Proof/Machine/Sequencer.lean ====
section
/-! DEFINITION. What the block does next: PHASE selects it (10 R13, 30 R75, 43 R154). -/

namespace Sys2Proof.Machine

/-- What PHASE selects. -/
inductive Selection where
  /-- One operation of format PHASE. -/
  | run (i : Instr)
  /-- A rest state: the block has no step of its own (43 R161). -/
  | rest
  /-- The scan would read SRC outside the input; no run reaches it (20 R44). -/
  | outOfRange (index : Nat)
  deriving DecidableEq, Repr

/-- Which of 40 R81, R82, R83 the SCAN step performs (43 R156). When SCAN_IDX is 0 no byte is read. -/
def selectScan (s : State) : Selection :=
  if s.scanIdx = 0#32 then .run .pvScanEnd
  else
    match s.srcByte (s.scanIdx.toNat - 1) with
    | .error _ => .outOfRange (s.scanIdx.toNat - 1)
    | .ok c =>
      match classOf c with
      | .pad => .run .pvScanPad
      | .lf => .run .pvScanLf
      | .upper | .lower | .digit | .invalid => .run .pvScanEnd

/-- The operation PHASE selects (43 R154 to R159). -/
def select (s : State) : Selection :=
  match s.phase with
  | .idle | .done | .error => .rest
  | .scan => selectScan s
  | .geom => .run .stepGeom
  | .unpack => if s.srcCursor = s.contentLen then .run .stepDone else .run .stepUnpack

end Sys2Proof.Machine
end

