-- ==== Sys2Proof/Machine/Padding.lean ====
section
/-! DEFINITION. The padding_validator PV: the scan (40 R81 to R83), the geometry (40 R85 to R87), the trailing-length rules
(40 R90 to R97), the capacity check (40 R100), and the GEOM step that performs the last three in order (40 R101,
43 R157). A PV.TL row performed alone, outside its place in the GEOM step, acts all the same: log entry 26 (DESIGN CHOICE). -/

namespace Sys2Proof.Machine

/-- PV.SCAN.PAD (40 R81). -/
def execPvScanPad (s : State) : Host.Outcome State Fault Refusal :=
  ifSelected (select s = .run .pvScanPad) (.next s.padScanned)

/-- PV.SCAN.LF (40 R82). -/
def execPvScanLf (s : State) : Host.Outcome State Fault Refusal :=
  ifSelected (select s = .run .pvScanLf) (.next s.lfScanned)

/-- PV.SCAN.END (40 R83). -/
def execPvScanEnd (s : State) : Host.Outcome State Fault Refusal :=
  ifSelected (select s = .run .pvScanEnd) (.next s.scanEnded)

/-- PV.GEOM.CONTENT (40 R85): the first action of the GEOM step. -/
def execPvGeomContent (s : State) : Host.Outcome State Fault Refusal :=
  ifSelected (s.phase = .geom) (.next { s with contentLen := s.scanIdx })

/-- PV.GEOM.QUANTA (40 R86): the second action. -/
def execPvGeomQuanta (s : State) : Host.Outcome State Fault Refusal :=
  ifSelected (s.phase = .geom) (.next { s with fullQuanta := fullQuantaOf s.contentLen })

/-- PV.GEOM.TRAILING (40 R87): the third action. -/
def execPvGeomTrailing (s : State) : Host.Outcome State Fault Refusal :=
  ifSelected (s.phase = .geom) (.next { s with trailingLen := trailingLenOf s.contentLen })

/-- PV.TL0 (40 R90): no partial quantum, 0 bytes. -/
def execPvTL0 (s : State) : Host.Outcome State Fault Refusal := contribute 0 s

/-- PV.TL1 (40 R91). -/
def execPvTL1 (s : State) : Host.Outcome State Fault Refusal := rejectLength s

/-- PV.TL2 (40 R92): 1 byte. -/
def execPvTL2 (s : State) : Host.Outcome State Fault Refusal := contribute 1 s

/-- PV.TL3 (40 R93). -/
def execPvTL3 (s : State) : Host.Outcome State Fault Refusal := rejectLength s

/-- PV.TL4 (40 R94): 2 bytes. -/
def execPvTL4 (s : State) : Host.Outcome State Fault Refusal := contribute 2 s

/-- PV.TL5 (40 R95, 90 C1): 3 bytes. -/
def execPvTL5 (s : State) : Host.Outcome State Fault Refusal := contribute 3 s

/-- PV.TL6 (40 R96). -/
def execPvTL6 (s : State) : Host.Outcome State Fault Refusal := rejectLength s

/-- PV.TL7 (40 R97): 4 bytes. -/
def execPvTL7 (s : State) : Host.Outcome State Fault Refusal := contribute 4 s

/-- The trailing-length rule that TRAILING_LEN selects (30 R63). -/
def execTrailing (s : State) : Host.Outcome State Fault Refusal :=
  match s.trailingLen.toNat with
  | 0 => execPvTL0 s
  | 1 => execPvTL1 s
  | 2 => execPvTL2 s
  | 3 => execPvTL3 s
  | 4 => execPvTL4 s
  | 5 => execPvTL5 s
  | 6 => execPvTL6 s
  | _ => execPvTL7 s

/-- PV.ALLOC (40 R100), selected in GEOM after the trailing-length check has passed. SIZE fits in DST_LEN because it is at
most DST_CAP. -/
def execPvAlloc (s : State) : Host.Outcome State Fault Refusal :=
  ifSelected (s.phase = .geom && (tbl s.trailingLen).isSome)
    (if s.cfg.dstCap.toNat < s.size then .next (s.raised .allocationFailure 0#32)
     else .next { s with dstLen := BitVec.ofNat 32 s.size })

/-- STEP.GEOM (43 R157): the order of 40 R101, one step, no SRC or DST access. -/
def execStepGeom (s : State) : Host.Outcome State Fault Refusal :=
  ifSelected (s.phase = .geom)
    (endStep
      (andThen (execPvGeomContent s) fun s =>
        andThen (execPvGeomQuanta s) fun s =>
          andThen (execPvGeomTrailing s) fun s =>
            andThen (execTrailing s) fun s =>
              andThen (execPvAlloc s) fun s => .next { s with phase := .unpack }))

end Sys2Proof.Machine
end

