-- ==== Sys2Proof/Machine/Symbols.lean ====
section
/-! DEFINITION. The symbol rows SYM.* (41 R111 to R116): what each code means where it stands (log entry 10), and, performed
alone, where no such byte stands (log entry 27). The values are those of the
tables of 41 section 3, written out; that they agree with the arithmetic of 41 R111 to R113 is a statement. -/

namespace Sys2Proof.Machine

/-- `A` 0x41: class UPPER, value 0 (41 R111). -/
def execSymUpperA (s : State) : Host.Outcome State Fault Refusal := presentSymbol (.upper 0#5) s

/-- `B` 0x42: class UPPER, value 1 (41 R111). -/
def execSymUpperB (s : State) : Host.Outcome State Fault Refusal := presentSymbol (.upper 1#5) s

/-- `C` 0x43: class UPPER, value 2 (41 R111). -/
def execSymUpperC (s : State) : Host.Outcome State Fault Refusal := presentSymbol (.upper 2#5) s

/-- `D` 0x44: class UPPER, value 3 (41 R111). -/
def execSymUpperD (s : State) : Host.Outcome State Fault Refusal := presentSymbol (.upper 3#5) s

/-- `E` 0x45: class UPPER, value 4 (41 R111). -/
def execSymUpperE (s : State) : Host.Outcome State Fault Refusal := presentSymbol (.upper 4#5) s

/-- `F` 0x46: class UPPER, value 5 (41 R111). -/
def execSymUpperF (s : State) : Host.Outcome State Fault Refusal := presentSymbol (.upper 5#5) s

/-- `G` 0x47: class UPPER, value 6 (41 R111). -/
def execSymUpperG (s : State) : Host.Outcome State Fault Refusal := presentSymbol (.upper 6#5) s

/-- `H` 0x48: class UPPER, value 7 (41 R111). -/
def execSymUpperH (s : State) : Host.Outcome State Fault Refusal := presentSymbol (.upper 7#5) s

/-- `I` 0x49: class UPPER, value 8 (41 R111). -/
def execSymUpperI (s : State) : Host.Outcome State Fault Refusal := presentSymbol (.upper 8#5) s

/-- `J` 0x4A: class UPPER, value 9 (41 R111). -/
def execSymUpperJ (s : State) : Host.Outcome State Fault Refusal := presentSymbol (.upper 9#5) s

/-- `K` 0x4B: class UPPER, value 10 (41 R111). -/
def execSymUpperK (s : State) : Host.Outcome State Fault Refusal := presentSymbol (.upper 10#5) s

/-- `L` 0x4C: class UPPER, value 11 (41 R111). -/
def execSymUpperL (s : State) : Host.Outcome State Fault Refusal := presentSymbol (.upper 11#5) s

/-- `M` 0x4D: class UPPER, value 12 (41 R111). -/
def execSymUpperM (s : State) : Host.Outcome State Fault Refusal := presentSymbol (.upper 12#5) s

/-- `N` 0x4E: class UPPER, value 13 (41 R111). -/
def execSymUpperN (s : State) : Host.Outcome State Fault Refusal := presentSymbol (.upper 13#5) s

/-- `O` 0x4F: class UPPER, value 14 (41 R111). -/
def execSymUpperO (s : State) : Host.Outcome State Fault Refusal := presentSymbol (.upper 14#5) s

/-- `P` 0x50: class UPPER, value 15 (41 R111). -/
def execSymUpperP (s : State) : Host.Outcome State Fault Refusal := presentSymbol (.upper 15#5) s

/-- `Q` 0x51: class UPPER, value 16 (41 R111). -/
def execSymUpperQ (s : State) : Host.Outcome State Fault Refusal := presentSymbol (.upper 16#5) s

/-- `R` 0x52: class UPPER, value 17 (41 R111). -/
def execSymUpperR (s : State) : Host.Outcome State Fault Refusal := presentSymbol (.upper 17#5) s

/-- `S` 0x53: class UPPER, value 18 (41 R111). -/
def execSymUpperS (s : State) : Host.Outcome State Fault Refusal := presentSymbol (.upper 18#5) s

/-- `T` 0x54: class UPPER, value 19 (41 R111). -/
def execSymUpperT (s : State) : Host.Outcome State Fault Refusal := presentSymbol (.upper 19#5) s

/-- `U` 0x55: class UPPER, value 20 (41 R111). -/
def execSymUpperU (s : State) : Host.Outcome State Fault Refusal := presentSymbol (.upper 20#5) s

/-- `V` 0x56: class UPPER, value 21 (41 R111). -/
def execSymUpperV (s : State) : Host.Outcome State Fault Refusal := presentSymbol (.upper 21#5) s

/-- `W` 0x57: class UPPER, value 22 (41 R111). -/
def execSymUpperW (s : State) : Host.Outcome State Fault Refusal := presentSymbol (.upper 22#5) s

/-- `X` 0x58: class UPPER, value 23 (41 R111). -/
def execSymUpperX (s : State) : Host.Outcome State Fault Refusal := presentSymbol (.upper 23#5) s

/-- `Y` 0x59: class UPPER, value 24 (41 R111). -/
def execSymUpperY (s : State) : Host.Outcome State Fault Refusal := presentSymbol (.upper 24#5) s

/-- `Z` 0x5A: class UPPER, value 25 (41 R111). -/
def execSymUpperZ (s : State) : Host.Outcome State Fault Refusal := presentSymbol (.upper 25#5) s

/-- `a` 0x61: class LOWER, value 0 (41 R112). -/
def execSymLowerA (s : State) : Host.Outcome State Fault Refusal := presentSymbol (.lower 0#5) s

/-- `b` 0x62: class LOWER, value 1 (41 R112). -/
def execSymLowerB (s : State) : Host.Outcome State Fault Refusal := presentSymbol (.lower 1#5) s

/-- `c` 0x63: class LOWER, value 2 (41 R112). -/
def execSymLowerC (s : State) : Host.Outcome State Fault Refusal := presentSymbol (.lower 2#5) s

/-- `d` 0x64: class LOWER, value 3 (41 R112). -/
def execSymLowerD (s : State) : Host.Outcome State Fault Refusal := presentSymbol (.lower 3#5) s

/-- `e` 0x65: class LOWER, value 4 (41 R112). -/
def execSymLowerE (s : State) : Host.Outcome State Fault Refusal := presentSymbol (.lower 4#5) s

/-- `f` 0x66: class LOWER, value 5 (41 R112). -/
def execSymLowerF (s : State) : Host.Outcome State Fault Refusal := presentSymbol (.lower 5#5) s

/-- `g` 0x67: class LOWER, value 6 (41 R112). -/
def execSymLowerG (s : State) : Host.Outcome State Fault Refusal := presentSymbol (.lower 6#5) s

/-- `h` 0x68: class LOWER, value 7 (41 R112). -/
def execSymLowerH (s : State) : Host.Outcome State Fault Refusal := presentSymbol (.lower 7#5) s

/-- `i` 0x69: class LOWER, value 8 (41 R112). -/
def execSymLowerI (s : State) : Host.Outcome State Fault Refusal := presentSymbol (.lower 8#5) s

/-- `j` 0x6A: class LOWER, value 9 (41 R112). -/
def execSymLowerJ (s : State) : Host.Outcome State Fault Refusal := presentSymbol (.lower 9#5) s

/-- `k` 0x6B: class LOWER, value 10 (41 R112). -/
def execSymLowerK (s : State) : Host.Outcome State Fault Refusal := presentSymbol (.lower 10#5) s

/-- `l` 0x6C: class LOWER, value 11 (41 R112). -/
def execSymLowerL (s : State) : Host.Outcome State Fault Refusal := presentSymbol (.lower 11#5) s

/-- `m` 0x6D: class LOWER, value 12 (41 R112). -/
def execSymLowerM (s : State) : Host.Outcome State Fault Refusal := presentSymbol (.lower 12#5) s

/-- `n` 0x6E: class LOWER, value 13 (41 R112). -/
def execSymLowerN (s : State) : Host.Outcome State Fault Refusal := presentSymbol (.lower 13#5) s

/-- `o` 0x6F: class LOWER, value 14 (41 R112). -/
def execSymLowerO (s : State) : Host.Outcome State Fault Refusal := presentSymbol (.lower 14#5) s

/-- `p` 0x70: class LOWER, value 15 (41 R112). -/
def execSymLowerP (s : State) : Host.Outcome State Fault Refusal := presentSymbol (.lower 15#5) s

/-- `q` 0x71: class LOWER, value 16 (41 R112). -/
def execSymLowerQ (s : State) : Host.Outcome State Fault Refusal := presentSymbol (.lower 16#5) s

/-- `r` 0x72: class LOWER, value 17 (41 R112). -/
def execSymLowerR (s : State) : Host.Outcome State Fault Refusal := presentSymbol (.lower 17#5) s

/-- `s` 0x73: class LOWER, value 18 (41 R112). -/
def execSymLowerS (s : State) : Host.Outcome State Fault Refusal := presentSymbol (.lower 18#5) s

/-- `t` 0x74: class LOWER, value 19 (41 R112). -/
def execSymLowerT (s : State) : Host.Outcome State Fault Refusal := presentSymbol (.lower 19#5) s

/-- `u` 0x75: class LOWER, value 20 (41 R112). -/
def execSymLowerU (s : State) : Host.Outcome State Fault Refusal := presentSymbol (.lower 20#5) s

/-- `v` 0x76: class LOWER, value 21 (41 R112). -/
def execSymLowerV (s : State) : Host.Outcome State Fault Refusal := presentSymbol (.lower 21#5) s

/-- `w` 0x77: class LOWER, value 22 (41 R112). -/
def execSymLowerW (s : State) : Host.Outcome State Fault Refusal := presentSymbol (.lower 22#5) s

/-- `x` 0x78: class LOWER, value 23 (41 R112). -/
def execSymLowerX (s : State) : Host.Outcome State Fault Refusal := presentSymbol (.lower 23#5) s

/-- `y` 0x79: class LOWER, value 24 (41 R112). -/
def execSymLowerY (s : State) : Host.Outcome State Fault Refusal := presentSymbol (.lower 24#5) s

/-- `z` 0x7A: class LOWER, value 25 (41 R112). -/
def execSymLowerZ (s : State) : Host.Outcome State Fault Refusal := presentSymbol (.lower 25#5) s

/-- `2` 0x32: class DIGIT, value 26 (41 R113). -/
def execSymDigit2 (s : State) : Host.Outcome State Fault Refusal := presentSymbol (.digit 26#5) s

/-- `3` 0x33: class DIGIT, value 27 (41 R113). -/
def execSymDigit3 (s : State) : Host.Outcome State Fault Refusal := presentSymbol (.digit 27#5) s

/-- `4` 0x34: class DIGIT, value 28 (41 R113). -/
def execSymDigit4 (s : State) : Host.Outcome State Fault Refusal := presentSymbol (.digit 28#5) s

/-- `5` 0x35: class DIGIT, value 29 (41 R113). -/
def execSymDigit5 (s : State) : Host.Outcome State Fault Refusal := presentSymbol (.digit 29#5) s

/-- `6` 0x36: class DIGIT, value 30 (41 R113). -/
def execSymDigit6 (s : State) : Host.Outcome State Fault Refusal := presentSymbol (.digit 30#5) s

/-- `7` 0x37: class DIGIT, value 31 (41 R113). -/
def execSymDigit7 (s : State) : Host.Outcome State Fault Refusal := presentSymbol (.digit 31#5) s

/-- `=` 0x3D: class PAD, no value (41 R114). -/
def execSymPad (s : State) : Host.Outcome State Fault Refusal := presentSymbol .pad s

/-- LF 0x0A: class LF, no value (41 R115). -/
def execSymLf (s : State) : Host.Outcome State Fault Refusal := presentSymbol .lf s

/-- Any other code: class INVALID, no value (41 R116). Which code it is makes no difference. -/
def execSymInvalid (_code : Byte) (s : State) : Host.Outcome State Fault Refusal := presentSymbol .invalid s

end Sys2Proof.Machine
end

