-- ==== Sys2Proof/Machine/Unpacker.lean ====
section
/-! DEFINITION. The quantum_unpacker QU (42 R131 to R135) and the UNPACK step around it (43 R158, R159). A QU row
performed alone, outside an UNPACK step, stores its bytes all the same: log entry 26 (DESIGN CHOICE). -/

namespace Sys2Proof.Machine

/-- QU.UNPACK8 (42 R131): five bytes from eight characters, in any PHASE (log entry 26). -/
def execQuUnpack8 (s : State) : Host.Outcome State Fault Refusal := storeBytes (quantumBytes 8 s.v) s

/-- QU.UNPACK7 (42 R132): four bytes from seven characters. -/
def execQuUnpack7 (s : State) : Host.Outcome State Fault Refusal := storeBytes (quantumBytes 7 s.v) s

/-- QU.UNPACK5 (42 R133): three bytes from five characters. -/
def execQuUnpack5 (s : State) : Host.Outcome State Fault Refusal := storeBytes (quantumBytes 5 s.v) s

/-- QU.UNPACK4 (42 R134): two bytes from four characters. -/
def execQuUnpack4 (s : State) : Host.Outcome State Fault Refusal := storeBytes (quantumBytes 4 s.v) s

/-- QU.UNPACK2 (42 R135): one byte from two characters. -/
def execQuUnpack2 (s : State) : Host.Outcome State Fault Refusal := storeBytes (quantumBytes 2 s.v) s

/-- The unpack operation that a quantum length selects (30 R64); the other lengths are refused (42 R140). -/
def execQuantum (n : Nat) (s : State) : Host.Outcome State Fault Refusal :=
  match n with
  | 8 => execQuUnpack8 s
  | 7 => execQuUnpack7 s
  | 5 => execQuUnpack5 s
  | 4 => execQuUnpack4 s
  | 2 => execQuUnpack2 s
  | n => .refused (.noUnpackOperation n)

/-- The character loop of 43 R158 for the next `k` characters: read, decode, load, in ascending order, stopping at the
first that raises. -/
def loadLanes : Nat → State → Host.Outcome State Fault Refusal
  | 0, s => .next s
  | k + 1, s =>
    match s.srcByte (s.srcCursor.toNat + s.lane.toNat) with
    | .error f => .fault f
    | .ok c => andThen (presentSymbol (symbolOf c) s) (loadLanes k)

/-- The cursor advance at the end of a successful UNPACK step (10 R12, 43 R158). -/
def State.advanced (s : State) (n : Nat) : State :=
  { s with
    srcCursor := s.srcCursor + BitVec.ofNat 32 n
    dstCursor := s.dstCursor + BitVec.ofNat 32 (bytesOut n) }

/-- One whole quantum (43 R158): characters, unpack operation, cursors. -/
def unpackQuantum (s : State) : Host.Outcome State Fault Refusal :=
  andThen (loadLanes s.quantumLength { s with lane := 0#3 }) fun t =>
    andThen (execQuantum s.quantumLength t) fun u => .next (u.advanced s.quantumLength)

/-- STEP.DONE (43 R159). -/
def execStepDone (s : State) : Host.Outcome State Fault Refusal :=
  ifSelected (s.phase = .unpack && s.srcCursor = s.contentLen) (.next { s with phase := .done })

/-- STEP.UNPACK (43 R158), the whole pseudocode: DONE when the content is used up, else one quantum. -/
def execStepUnpack (s : State) : Host.Outcome State Fault Refusal :=
  ifSelected (s.phase = .unpack)
    (if s.srcCursor = s.contentLen then execStepDone s else endStep (unpackQuantum s))

end Sys2Proof.Machine
end

