-- ==== Sys2Proof/Machine/Bus.lean ====
section
/-! DEFINITION. One step of the block by itself, and the host's accesses between steps (10 R16, 43 R170). -/

namespace Sys2Proof.Machine

/-- The block's own step: the operation PHASE selects; at rest nothing changes (43 R154, R161; log entry 7). -/
def blockStep (s : State) : Host.Outcome State Fault Refusal :=
  match select s with
  | .run i => exec i s
  | .rest => .next s
  | .outOfRange index => .fault (.srcIndexOutOfRange index)

/-- A write of CTRL: the command the word selects; every other value has no effect at all (10 R17). -/
def writeCtrl (word : BitVec 32) (s : State) : Host.Outcome State Fault Refusal :=
  match decode (.ctrl32 word) with
  | .ok i => exec i s
  | .error _ => .next s

/-- A write of register `n` (10 R16): CTRL, SRC_LEN (ignored while BUSY, 10 R21), and no effect on the others. -/
def writeReg (n : Nat) (value : BitVec 32) (s : State) : Host.Outcome State Fault Refusal :=
  if n = 0 then writeCtrl value s
  else if n = 4 ∧ s.busy = false then .next { s with srcLen := value }
  else .next s

/-- Does a read of register `n` return an unspecified value (10 R28)? While BUSY, of every register but STATUS and CTRL, which
holds nothing and reads 0 (10 R16; log entry 12). -/
def State.readsFree (s : State) (n : Nat) : Bool := s.busy && n ≠ 0 && n ≠ 1 && n ≤ 12

/-- A read of register `n` (10 R16, R28). -/
def readReg (n : Nat) (s : State) : Host.Outcome State Fault Refusal :=
  if s.readsFree n then
    .next { s with busData := lowBits (regWidth n) (Config.freeWord s.draws), draws := s.draws + 1 }
  else .next { s with busData := s.regValue n }

/-- The register at a byte offset of REG: register `n` is at `4 * n` (10 R16, 20 R47). -/
def regAtOffset (offset : Nat) : Option Nat := if offset % 4 = 0 then some (offset / 4) else none

/-- A host access by byte offset; an offset that is not `4 * n` is no register access (log entry 18). -/
def atOffset (offset : Nat) (access : Nat → State → Host.Outcome State Fault Refusal) (s : State) :
    Host.Outcome State Fault Refusal :=
  match regAtOffset offset with
  | some n => access n s
  | none => .refused (.offsetNotARegister offset)

/-- A host write of `SRC[i]` (43 R170): must not be done while BUSY (20 R50). -/
def writeSrc (i : Nat) (b : Byte) (s : State) : Host.Outcome State Fault Refusal :=
  if s.busy then .refused .srcWriteWhileBusy
  else if i < s.cfg.srcCap.toNat then .next { s with src := s.src.write i b }
  else .fault (.srcIndexOutOfRange i)

/-- A host write of `DST[i]` (43 R170; log entry 20): must not be done while BUSY (70 R216). -/
def writeDst (i : Nat) (b : Byte) (s : State) : Host.Outcome State Fault Refusal :=
  if s.busy then .refused .dstWriteWhileBusy
  else if i < s.cfg.dstCap.toNat then .next { s with dst := s.dst.write i b }
  else .fault (.dstIndexOutOfRange i)

/-- A host read of `DST[i]` (43 R170, 90 C9): an unspecified byte while BUSY, what the buffer holds otherwise. -/
def readDst (i : Nat) (s : State) : Host.Outcome State Fault Refusal :=
  if s.cfg.dstCap.toNat ≤ i then .fault (.dstIndexOutOfRange i)
  else if s.busy then
    .next { s with busData := lowBits 8 (Config.freeWord s.draws), draws := s.draws + 1 }
  else .next { s with busData := (s.dst.read i).setWidth 32 }

/-- One slot of the host's schedule (log entry 6). -/
def hostStep (a : HostAction) (s : State) : Host.Outcome State Fault Refusal :=
  match a with
  | .wait => blockStep s
  | .writeReg n value => writeReg n value s
  | .readReg n => readReg n s
  | .writeBus offset value => atOffset offset (fun n => writeReg n value) s
  | .readBus offset => atOffset offset readReg s
  | .writeSrc i b => writeSrc i b s
  | .writeDst i b => writeDst i b s
  | .readDst i => readDst i s
  | .reset => .next s.resetApplied

/-! ### Where an instruction is fetched from -/

/-- The block about to look at the one SRC byte `code` from the end of the input (40 R81 to R83). -/
def State.withSymbol (s : State) (code : Byte) : State :=
  { s with phase := .scan, srcLen := 1#32, scanIdx := 1#32, src := s.src.write 0 code, inputs := .wait :: s.inputs }

/-- The block about to judge a content of `len` characters (43 R157). -/
def State.withTrailing (s : State) (len : BitVec 3) : State :=
  { s with phase := .geom, scanIdx := len.setWidth 32, inputs := .wait :: s.inputs }

/-- The block about to unpack one quantum of `len` characters `A` at index 0 (43 R158). -/
def State.withQuantum (s : State) (len : BitVec 4) : State :=
  { s with
    phase := .unpack
    srcLen := len.setWidth 32
    contentLen := len.setWidth 32
    srcCursor := 0#32
    dstCursor := 0#32
    src := s.src.writeRun 0 (List.replicate len.toNat 0x41#8)
    inputs := .wait :: s.inputs }

/-- The host about to write `word` to CTRL. -/
def State.withCommand (s : State) (word : BitVec 32) : State := { s with inputs := .writeReg 0 word :: s.inputs }

/-- A bit pattern placed where the next step meets it (log entry 8). -/
def State.withEncoding (s : State) : Encoding → State
  | .sym8 code => s.withSymbol code
  | .tlen3 len => s.withTrailing len
  | .qlen4 len => s.withQuantum len
  | .ctrl32 word => s.withCommand word

end Sys2Proof.Machine
end

