-- ==== Sys2Proof/Machine/Step.lean ====
section
/-! DEFINITION. One step: the host's next action if one is pending, else the block's own step (10 R16: a host access happens
between two steps, never inside one). -/

namespace Sys2Proof.Machine

/-- One step of the machine. -/
def step (s : State) : Host.Outcome State Fault Refusal :=
  match s.inputs with
  | [] => blockStep s
  | a :: rest => hostStep a { s with inputs := rest }

/-- A word of the opcode table placed where the next step meets it (log entry 8). -/
def State.withFetchWord (s : State) (nbits w : Nat) : State := s.withEncoding (tableEncoding nbits w)

end Sys2Proof.Machine
end

