-- ==== Sys2Proof/Machine/Reference.lean ====
section
/-! DEFINITION. The normative function `decode` of 43 R150, from a byte sequence and DST_CAP to a byte sequence or an error,
and the conventional encoder of 93 K3 that 43 R164 uses as an oracle. Written over lists of bits, apart from the phase
machine, which must agree with it (43 R163). -/

namespace Sys2Proof.Machine

/-- The three errors of 60 R180; InvalidCharacter carries its position (60 R185). -/
inductive DecodeError where
  | invalidCharacter (pos : Nat)
  | invalidTrailingQuantumLength
  | allocationFailure
  deriving DecidableEq, Repr

/-- The trailer: the longest suffix made of `=` and LF bytes (40 R80). -/
def trailerOf (s : List Byte) : List Byte := (s.reverse.takeWhile isTrailerByte).reverse

/-- `pad` of 43 R150. -/
def padOf (s : List Byte) : Nat := (trailerOf s).countP (· == 0x3D#8)

/-- `lf` of 43 R150. -/
def lfOf (s : List Byte) : Nat := (trailerOf s).length - padOf s

/-- `c` of 43 R150. -/
def contentLenOf (s : List Byte) : Nat := s.length - (trailerOf s).length

/-- The content of an input (40 R80). -/
def contentOf (s : List Byte) : List Byte := s.take (contentLenOf s)

/-- The size of the output, `5 * fq + tbl(tl)`; none where the trailing length is invalid (43 R150, 40 R98). -/
def decodedSize? (c : Nat) : Option Nat :=
  match c % 8 with
  | 0 => some (5 * (c / 8))
  | 2 => some (5 * (c / 8) + 1)
  | 4 => some (5 * (c / 8) + 2)
  | 5 => some (5 * (c / 8) + 3)
  | 7 => some (5 * (c / 8) + 4)
  | _ => none

/-- Is the byte acceptable at a content index (41 R117)? -/
def isContentByte (c : Byte) : Bool := (valueOf c).isSome

/-- The least index of a byte that is not acceptable (60 R185). -/
def firstBad : List Byte → Option Nat
  | [] => none
  | c :: rest => if isContentByte c then (firstBad rest).map (· + 1) else some 0

/-- The low `n` bits of a number, most significant first. -/
def bitsOf (n : Nat) (x : Nat) : List Bool := (List.range n).map fun i => x.testBit (n - 1 - i)

/-- The byte whose bits are these, most significant first. -/
def byteOfBits (bs : List Bool) : Byte := BitVec.ofNat 8 (bs.foldl (fun acc b => 2 * acc + b.toNat) 0)

/-- The bit string `X`: the values of the content, 5 bits each, the first character most significant (43 R150). -/
def contentBits (content : List Byte) : List Bool :=
  content.flatMap fun c => bitsOf 5 ((valueOf c).getD 0).toNat

/-- The first `size` whole bytes of a bit string (43 R150). -/
def bytesOfBits (size : Nat) (x : List Bool) : List Byte :=
  (List.range size).map fun k => byteOfBits ((x.drop (8 * k)).take 8)

/-- `decode` (43 R150). -/
def decodeText (dstCap : Nat) (s : List Byte) : Except DecodeError (List Byte) :=
  match decodedSize? (contentLenOf s) with
  | none => .error .invalidTrailingQuantumLength
  | some size =>
    if dstCap < size then .error .allocationFailure
    else
      match firstBad (contentOf s) with
      | some pos => .error (.invalidCharacter pos)
      | none => .ok (bytesOfBits size (contentBits (contentOf s)))

/-! ### The conventional encoder (93 K3, general knowledge; log entry 22) -/

/-- The character of a 5-bit value: `A` to `Z`, then `2` to `7`. -/
def charOf (x : Nat) : Byte := if x < 26 then BitVec.ofNat 8 (0x41 + x) else BitVec.ofNat 8 (0x32 + (x - 26))

/-- How many characters the bits of `n` bytes take in a group: 2, 4, 5, 7, 8 for 1 to 5 bytes. -/
def charsFor (n : Nat) : Nat := (8 * n + 4) / 5

/-- The 5-bit value at character `j` of a group of bytes, extended with zero bits. -/
def groupValue (group : List Byte) (j : Nat) : Nat :=
  let x := group.flatMap fun b => bitsOf 8 b.toNat
  ((x ++ List.replicate 40 false).drop (5 * j) |>.take 5).foldl (fun acc b => 2 * acc + b.toNat) 0

/-- One group of at most 5 bytes as 8 characters. -/
def encodeGroup (group : List Byte) : List Byte :=
  (List.range (charsFor group.length)).map (fun j => charOf (groupValue group j)) ++
    List.replicate (8 - charsFor group.length) 0x3D#8

/-- The conventional encoder: groups of 5 bytes, most significant bit first. -/
def encodeText : List Byte → List Byte
  | [] => []
  | b0 :: b1 :: b2 :: b3 :: b4 :: rest => encodeGroup [b0, b1, b2, b3, b4] ++ encodeText rest
  | group => encodeGroup group

end Sys2Proof.Machine
end

