-- ==== Sys2Proof/Safety.lean ====
section
/-! DEFINITION. The terms claims use: the input of a transaction, what a transaction shows at its end (43 R151), the duties of
the host (43 R170), and the invariant that every step keeps. -/

namespace Sys2Proof.Safety

open Sys2Proof.Machine

/-- The input of a transaction: `SRC[0 .. SRC_LEN - 1]` (10 R21). -/
def textOf (s : State) : List Byte := (List.range s.srcLen.toNat).map s.src.read

/-- The result the normative function gives for the input and capacity of a state (43 R150). -/
def resultOf (s : State) : Except DecodeError (List Byte) := decodeText s.cfg.dstCap.toNat (textOf s)

/-! ### The observables of a transaction (43 R151) -/

/-- The geometry registers hold the quantities of 43 R150. -/
structure GeometryReported (text : List Byte) (t : State) : Prop where
  pad : t.padCount.toNat = padOf text
  lf : t.lfCount.toNat = lfOf text
  content : t.contentLen.toNat = contentLenOf text
  quanta : t.fullQuanta.toNat = contentLenOf text / 8
  trailing : t.trailingLen.toNat = contentLenOf text % 8

/-- 43 R151 (a), with the bytes at and above DST_LEN as they were (20 R46). -/
structure DoneReported (out : List Byte) (before : Memory) (t : State) : Prop where
  phase : t.phase = .done
  status : t.status = 0b010#3
  errCode : t.errCode = .none
  errPos : t.errPos = 0#32
  length : t.dstLen.toNat = out.length
  bytes : ∀ k < out.length, t.dst.byte? k = out[k]?
  beyond : ∀ k, out.length ≤ k → t.dst.byte? k = before.byte? k
  srcCursor : t.srcCursor = t.contentLen
  dstCursor : t.dstCursor = t.dstLen

/-- The ERR_CODE of an error (60 R180). -/
def codeOf : DecodeError → ErrCode
  | .invalidCharacter _ => .invalidCharacter
  | .invalidTrailingQuantumLength => .invalidTrailingQuantumLength
  | .allocationFailure => .allocationFailure

/-- The position an error reports: 0 unless InvalidCharacter (60 R186). -/
def positionOf : DecodeError → Nat
  | .invalidCharacter pos => pos
  | .invalidTrailingQuantumLength => 0
  | .allocationFailure => 0

/-- 43 R151 (b); every byte of DST is unspecified. -/
structure ErrorReported (e : DecodeError) (t : State) : Prop where
  phase : t.phase = .error
  status : t.status = 0b100#3
  errCode : t.errCode = codeOf e
  errPos : t.errPos.toNat = positionOf e
  dstLen : t.dstLen = 0#32
  bytes : ∀ k, t.dst.byte? k = none
  srcCursor : t.srcCursor.toNat = 8 * (positionOf e / 8)
  dstCursor : t.dstCursor.toNat = 5 * (positionOf e / 8)

/-- What the end `t` of a transaction shows, by the result that `decode` gives for its start `s` (43 R151). -/
def Reported (s t : State) : Prop :=
  t.src = s.src ∧ t.srcLen = s.srcLen ∧ GeometryReported (textOf s) t ∧
    match resultOf s with
    | .ok out => DoneReported out s.dst t
    | .error e => ErrorReported e t

/-- A state from which a START is accepted and in which no host action is pending (43 R152). -/
structure Ready (s : State) : Prop where
  rest : s.busy = false
  fits : s.srcLen.toNat ≤ s.cfg.srcCap.toNat
  alone : s.inputs = []

/-- The number of quanta, `NQ` (40 R99). -/
def quantaOf (c : Nat) : Nat := if c % 8 = 0 then c / 8 else c / 8 + 1

/-! ### The host's duties -/

/-- START is not written with a length that SRC cannot hold (43 R170, 70 R215). -/
def StartFits (n : Nat) (value : BitVec 32) (s : State) : Prop :=
  n = 0 → value = 1#32 → s.busy = false → s.srcLen.toNat ≤ s.cfg.srcCap.toNat

/-- The pending action keeps the duties of 43 R170 and stays inside the address spaces of 20 R40. -/
def Dutiful (s : State) : Prop :=
  match s.inputs with
  | [] => True
  | .wait :: _ => True
  | .reset :: _ => True
  | .readReg _ :: _ => True
  | .writeReg n value :: _ => StartFits n value s
  | .readBus offset :: _ => offset % 4 = 0
  | .writeBus offset value :: _ => offset % 4 = 0 ∧ StartFits (offset / 4) value s
  | .writeSrc i _ :: _ => s.busy = false ∧ i < s.cfg.srcCap.toNat
  | .writeDst i _ :: _ => s.busy = false ∧ i < s.cfg.dstCap.toNat
  | .readDst i :: _ => i < s.cfg.dstCap.toNat

/-! ### The invariant -/

/-- SRC from `from_` to the end of the input is trailer, of which `pad` bytes are `=` and `lf` are LF (40 R80). -/
structure TrailerCounted (s : State) (from_ : Nat) : Prop where
  total : from_ + s.padCount.toNat + s.lfCount.toNat = s.srcLen.toNat
  isTrailer : ∀ i, from_ ≤ i → i < s.srcLen.toNat → isTrailerByte (s.src.read i) = true
  pads : s.padCount.toNat = ((List.range s.srcLen.toNat).drop from_).countP fun i => s.src.read i == 0x3D#8

/-- The byte before `from_`, if any, is no trailer byte: the trailer is the longest such suffix (40 R80). -/
def TrailerMaximal (s : State) (from_ : Nat) : Prop :=
  from_ = 0 ∨ isTrailerByte (s.src.read (from_ - 1)) = false

/-- The result registers a START zeroed and GEOM has not written yet (43 R155). -/
structure NotYetMeasured (s : State) : Prop where
  content : s.contentLen = 0#32
  srcCursor : s.srcCursor = 0#32
  dstCursor : s.dstCursor = 0#32
  dstLen : s.dstLen = 0#32

/-- While scanning (10 R14). -/
structure ScanInv (s : State) : Prop where
  counted : TrailerCounted s s.scanIdx.toNat
  unmeasured : NotYetMeasured s

/-- When the scan has ended (40 R83). -/
structure GeomInv (s : State) : Prop where
  counted : TrailerCounted s s.scanIdx.toNat
  maximal : TrailerMaximal s s.scanIdx.toNat
  unmeasured : NotYetMeasured s

/-- While unpacking (10 R12, 40 R98, R100, 43 R158). -/
structure UnpackInv (s : State) : Prop where
  counted : TrailerCounted s s.contentLen.toNat
  maximal : TrailerMaximal s s.contentLen.toNat
  size : decodedSize? s.contentLen.toNat = some s.dstLen.toNat
  atQuantum : s.srcCursor.toNat % 8 = 0 ∨ s.srcCursor = s.contentLen
  srcCursorLe : s.srcCursor.toNat ≤ s.contentLen.toNat
  lockstep : s.dstCursor.toNat = 5 * s.srcCursor.toNat / 8
  accepted : ∀ i < s.srcCursor.toNat, isContentByte (s.src.read i) = true

/-- After DONE, whatever the host has written since (43 R159, R161). -/
structure DoneInv (s : State) : Prop where
  size : decodedSize? s.contentLen.toNat = some s.dstLen.toNat
  srcCursor : s.srcCursor = s.contentLen
  dstCursor : s.dstCursor = s.dstLen

/-- What holds between any two steps, whatever the host does within its duties. -/
structure Inv (s : State) : Prop where
  srcWf : s.src.wf = true
  dstWf : s.dst.wf = true
  srcWithin : s.src.within s.cfg.srcCap.toNat = true
  dstWithin : s.dst.within s.cfg.dstCap.toNat = true
  errRecorded : s.errCode = .none ↔ s.phase ≠ .error
  posOnlyForCharacter : s.errPos ≠ 0#32 → s.errCode = .invalidCharacter
  noOutputOnError : s.phase = .error → s.dstLen = 0#32
  outputFits : s.dstLen.toNat ≤ s.cfg.dstCap.toNat
  quanta : s.fullQuanta.toNat = s.contentLen.toNat / 8
  trailing : s.trailingLen.toNat = s.contentLen.toNat % 8
  inputFits : s.busy = true → s.srcLen.toNat ≤ s.cfg.srcCap.toNat
  laneEmpty : s.lane = 0#3
  sizeEmpty : s.size = 0
  scanning : s.phase = .scan → ScanInv s
  measuring : s.phase = .geom → GeomInv s
  unpacking : s.phase = .unpack → UnpackInv s
  finished : s.phase = .done → DoneInv s

end Sys2Proof.Safety
end

