-- ==== Sys2Proof/Certificates/Slice0/Obligations.lean ====
section
/-! DEFINITION. The statements, and the tables and shorthands they are written with. -/

namespace Sys2Proof.Claims

open Sys2Proof.Machine

/-! ### The accepted symbol rows, in the order of their values (41 section 3) -/

/-- The rows of the codes `A` to `Z`. -/
def upperRows : List Instr :=
  [.symUpperA, .symUpperB, .symUpperC, .symUpperD, .symUpperE, .symUpperF, .symUpperG,
    .symUpperH, .symUpperI, .symUpperJ, .symUpperK, .symUpperL, .symUpperM, .symUpperN,
    .symUpperO, .symUpperP, .symUpperQ, .symUpperR, .symUpperS, .symUpperT, .symUpperU,
    .symUpperV, .symUpperW, .symUpperX, .symUpperY, .symUpperZ]

/-- The rows of the codes `a` to `z`. -/
def lowerRows : List Instr :=
  [.symLowerA, .symLowerB, .symLowerC, .symLowerD, .symLowerE, .symLowerF, .symLowerG,
    .symLowerH, .symLowerI, .symLowerJ, .symLowerK, .symLowerL, .symLowerM, .symLowerN,
    .symLowerO, .symLowerP, .symLowerQ, .symLowerR, .symLowerS, .symLowerT, .symLowerU,
    .symLowerV, .symLowerW, .symLowerX, .symLowerY, .symLowerZ]

/-- The rows of the codes `2` to `7`. -/
def digitRows : List Instr := [.symDigit2, .symDigit3, .symDigit4, .symDigit5, .symDigit6, .symDigit7]

/-! ### Effects written out -/

/-- 60 R186 written out: the state after `raise` of `e` with ERR_POS `pos`. -/
def afterRaise (e : ErrCode) (pos : Word) (s : State) : State :=
  { s with
    errCode := e, errPos := pos, dstLen := 0#32, phase := .error
    dst := { cells := [], epoch := s.draws }, draws := s.draws + 1 }

/-- A symbol that has the value `x`: in UNPACK it goes to `V[j]` and the next character follows; in SCAN it ends the scan;
elsewhere the symbol decoder has no side effect. -/
def afterValue (x : Sym) (s : State) : State :=
  match s.phase with
  | .unpack => { s with v := s.v.set s.lane.toNat x s.lane.isLt, lane := s.lane + 1#3 }
  | .scan => { s with phase := .geom }
  | .idle | .geom | .done | .error => s

/-- A symbol with no value as content: InvalidCharacter at `SRC_CURSOR + j`. -/
def afterBadCharacter (s : State) : State := afterRaise .invalidCharacter (s.srcCursor + s.lane.setWidth 32) s

/-- The registers and buffers that neither a GEOM nor an UNPACK step writes stay as they are. -/
structure KeepsInputSide (s t : State) : Prop where
  cfg : t.cfg = s.cfg
  srcLen : t.srcLen = s.srcLen
  src : t.src = s.src
  padCount : t.padCount = s.padCount
  lfCount : t.lfCount = s.lfCount
  inputs : t.inputs = s.inputs
  busData : t.busData = s.busData

/-- The geometry registers stay as they are. -/
structure KeepsGeometry (s t : State) : Prop where
  contentLen : t.contentLen = s.contentLen
  fullQuanta : t.fullQuanta = s.fullQuanta
  trailingLen : t.trailingLen = s.trailingLen

/-- 60 R186 as a relation between the state before a step that raised and the state after it. -/
structure Raised (e : ErrCode) (pos : Nat) (t : State) : Prop where
  phase : t.phase = .error
  errCode : t.errCode = e
  errPos : t.errPos.toNat = pos
  dstLen : t.dstLen = 0#32
  dst : ∀ k, t.dst.byte? k = none

/-! ### Quanta -/

/-- The unpack rows: operation, characters, bytes (42 R130). -/
def unpackRows : List (Instr × Nat × Nat) :=
  [(.quUnpack8, 8, 5), (.quUnpack7, 7, 4), (.quUnpack5, 5, 3), (.quUnpack4, 4, 2), (.quUnpack2, 2, 1)]

/-- The shift form of 42 R130: byte `k` of a quantum whose symbol values are `v`. -/
def shiftByte (v : Vector Sym 8) (k : Nat) : Byte :=
  let x (j : Fin 8) : Byte := v[j].setWidth 8
  match k with
  | 0 => (x 0 <<< 3) ||| (x 1 >>> 2)
  | 1 => ((x 1 &&& 0x03#8) <<< 6) ||| (x 2 <<< 1) ||| (x 3 >>> 4)
  | 2 => ((x 3 &&& 0x0F#8) <<< 4) ||| (x 4 >>> 1)
  | 3 => ((x 4 &&& 0x01#8) <<< 7) ||| (x 5 <<< 2) ||| (x 6 >>> 3)
  | _ => ((x 6 &&& 0x07#8) <<< 5) ||| x 7

/-- The symbol values `v` and `w` agree on the first `n` characters but for the low `d` bits of the last. -/
def AgreeButDiscarded (n d : Nat) (v w : Vector Sym 8) : Prop :=
  ∀ j : Fin 8, (j.val + 1 < n → v[j] = w[j]) ∧ (j.val + 1 = n → v[j] >>> d = w[j] >>> d)

/-- The characters of the quantum an UNPACK step handles. -/
def quantumChars (s : State) : List Byte :=
  (List.range s.quantumLength).map fun j => s.src.read (s.srcCursor.toNat + j)

/-- The quantum an UNPACK step handles lies in the input and in SRC. -/
structure QuantumReadable (s : State) : Prop where
  phase : s.phase = .unpack
  inInput : s.srcCursor.toNat + s.quantumLength ≤ s.srcLen.toNat
  inSrc : s.srcLen.toNat ≤ s.cfg.srcCap.toNat

/-- It also has an unpack operation, and its bytes fit in DST. -/
structure QuantumFits (s : State) : Prop where
  readable : QuantumReadable s
  length : s.quantumLength ∈ [8, 7, 5, 4, 2]
  inDst : s.dstCursor.toNat + 5 * s.quantumLength / 8 ≤ s.cfg.dstCap.toNat

/-! ### A step as the run of the rows its bit patterns decode to -/

/-- The character loop of 43 R158, each byte decoded and executed as a SYM8 row. -/
def runSymbols : Nat → State → Result
  | 0, s => .next s
  | k + 1, s =>
    match s.srcByte (s.srcCursor.toNat + s.lane.toNat) with
    | .error f => .fault f
    | .ok c =>
      match decode (.sym8 c) with
      | .ok i => andThen (exec i s) (runSymbols k)
      | .error _ => .refused .notSelected

/-- The row that a 4-bit quantum length decodes to; a length with no operation is refused. -/
def runQuantum (n : Nat) (s : State) : Result :=
  match decode (.qlen4 (BitVec.ofNat 4 n)) with
  | .ok i => exec i s
  | .error _ => .refused (.noUnpackOperation n)

/-- The row that TRAILING_LEN decodes to. -/
def runTrailing (s : State) : Result :=
  match decode (.tlen3 s.trailingLen) with
  | .ok i => exec i s
  | .error _ => .refused .notSelected

/-! ### The block running alone -/

/-- No host action acts on this step: none is pending, or the host waits. -/
def BlockMoves (s : State) : Prop := s.inputs = [] ∨ ∃ rest, s.inputs = .wait :: rest

/-- The phases that may follow a phase in one step of the block (43 R154). -/
def successors : Phase → List Phase
  | .idle => [.idle]
  | .scan => [.scan, .geom]
  | .geom => [.unpack, .error]
  | .unpack => [.unpack, .done, .error]
  | .done => [.done]
  | .error => [.error]

/-- The pending action writes 1 to CTRL. -/
def WritesStart (s : State) : Prop :=
  ∃ rest, s.inputs = .writeReg 0 1#32 :: rest ∨ s.inputs = .writeBus 0 1#32 :: rest

/-- Two ends of transactions look the same to the host (43 R151): all registers, and the decoded bytes where DONE. -/
structure LooksTheSame (t u : State) : Prop where
  registers : ∀ n ≠ 4, t.regValue n = u.regValue n
  output : t.phase = .done → ∀ k < t.dstLen.toNat, t.dst.byte? k = u.dst.byte? k

end Sys2Proof.Claims

open Sys2Proof Sys2Proof.Machine Sys2Proof.Safety Sys2Proof.Claims

/-- For every well-formed instruction that a bit pattern selects, decoding the bytes of its encoding gives it back; and
every run of bytes that decodes in a format decodes to a well-formed instruction whose encoding is those very bytes in
that format. The byte layout of the command word and of the narrow codes is the model's choice (log entry 19).
(30_encoding.md R61, R63, R64, R65, R67, R68, R70, R71, 41_symbol_decoder.md section 3) -/
def Obligations.EncodersAndDecodersAgree : Prop :=
  (∀ (i : Instr) (e : Encoding), i.wellFormed = true → encode i = some e →
      decodeBytes e.format (bytesOf e) = .ok i) ∧
    ∀ (f : Format) (bs : List Byte) (i : Instr), decodeBytes f bs = .ok i →
      i.wellFormed = true ∧ ∃ e, encode i = some e ∧ e.format = f ∧ bytesOf e = bs

/-- 0x4E is SYM.UPPER.N, 0x6E SYM.LOWER.n, 0x33 SYM.DIGIT.3, 0x3D SYM.PAD, 0x0A SYM.LF, 0x31 SYM.INVALID; trailing length
5 is PV.TL5; quantum length 7 is QU.UNPACK7 and 6 has no operation; the command word 1 is CMD.START, 3 and 0x80000001
are reserved. (30_encoding.md R67, 41_symbol_decoder.md section 3, 42_quantum_unpacker.md R140, 95_test_vectors.md
2.5) -/
def Obligations.SpecCodesDecodeToTheirRows : Prop :=
  decodeBytes .sym8 [0x4E#8] = .ok .symUpperN ∧ decodeBytes .sym8 [0x6E#8] = .ok .symLowerN ∧
    decodeBytes .sym8 [0x33#8] = .ok .symDigit3 ∧ decodeBytes .sym8 [0x3D#8] = .ok .symPad ∧
    decodeBytes .sym8 [0x0A#8] = .ok .symLf ∧ decodeBytes .sym8 [0x31#8] = .ok (.symInvalid 0x31#8) ∧
    decode (.tlen3 5#3) = .ok .pvTL5 ∧ decode (.qlen4 7#4) = .ok .quUnpack7 ∧
    decode (.qlen4 6#4) = .error (.noUnpackOperation 6#4) ∧ decode (.ctrl32 1#32) = .ok .cmdStart ∧
    decode (.ctrl32 3#32) = .error (.reservedCommand 3#32) ∧
    decode (.ctrl32 0x80000001#32) = .error (.reservedCommand 0x80000001#32)

/-- For every code c from 0x41 to 0x5A the symbol decoder gives class UPPER and value c - 0x41, and c decodes to that row;
for every code from 0x61 to 0x7A class LOWER and value c - 0x61. (R111, R112) -/
def Obligations.LetterCodesHaveTheirClassAndValue : Prop :=
  (∀ c : Byte, 0x41 ≤ c.toNat → c.toNat ≤ 0x5A →
      classOf c = .upper ∧ (∃ x, valueOf c = some x ∧ x.toNat = c.toNat - 0x41) ∧
        ∃ i, upperRows[c.toNat - 0x41]? = some i ∧ decode (.sym8 c) = .ok i) ∧
    ∀ c : Byte, 0x61 ≤ c.toNat → c.toNat ≤ 0x7A →
      classOf c = .lower ∧ (∃ x, valueOf c = some x ∧ x.toNat = c.toNat - 0x61) ∧
        ∃ i, lowerRows[c.toNat - 0x61]? = some i ∧ decode (.sym8 c) = .ok i

/-- For every code c from 0x32 to 0x37 the class is DIGIT and the value c - 0x32 + 26; 0x3D is PAD and 0x0A LF, with no
value; every code outside those and the letter ranges is INVALID, has no value and decodes to SYM.INVALID. (R113,
R114, R115, R116) -/
def Obligations.OtherCodesHaveTheirClass : Prop :=
  (∀ c : Byte, 0x32 ≤ c.toNat → c.toNat ≤ 0x37 →
      classOf c = .digit ∧ (∃ x, valueOf c = some x ∧ x.toNat = c.toNat - 0x32 + 26) ∧
        ∃ i, digitRows[c.toNat - 0x32]? = some i ∧ decode (.sym8 c) = .ok i) ∧
    (∀ c : Byte, c.toNat = 0x3D → classOf c = .pad ∧ valueOf c = none ∧ decode (.sym8 c) = .ok .symPad) ∧
    (∀ c : Byte, c.toNat = 0x0A → classOf c = .lf ∧ valueOf c = none ∧ decode (.sym8 c) = .ok .symLf) ∧
    ∀ c : Byte, ¬(0x41 ≤ c.toNat ∧ c.toNat ≤ 0x5A) → ¬(0x61 ≤ c.toNat ∧ c.toNat ≤ 0x7A) →
      ¬(0x32 ≤ c.toNat ∧ c.toNat ≤ 0x37) → c.toNat ≠ 0x3D → c.toNat ≠ 0x0A →
        classOf c = .invalid ∧ valueOf c = none ∧ decode (.sym8 c) = .ok (.symInvalid c)

/-- For every state, the row of value k (SYM.UPPER.A to Z and SYM.LOWER.a to z with k from 0 to 25, SYM.DIGIT.2 to 7 with
k from 26 to 31) answers a next state: in UNPACK V[j] gets k and the step goes to the next character; in SCAN PHASE
becomes GEOM; in the other phases nothing changes; every other field and every byte of SRC and DST is unchanged. That
a symbol row acts by the phase its byte stands in is the model's reading (log entry 10). That it acts so also where
the row's byte does not stand in SRC is the model's choice (log entry 27). (41_symbol_decoder.md sections 2 to 4,
43_decode_transaction.md section 3 (UNPACK step), 30_encoding.md section 3) -/
def Obligations.ValueRowsDeliverTheirValue : Prop :=
  (∀ k i, upperRows[k]? = some i → ∀ s, exec i s = .next (afterValue (BitVec.ofNat 5 k) s)) ∧
    (∀ k i, lowerRows[k]? = some i → ∀ s, exec i s = .next (afterValue (BitVec.ofNat 5 k) s)) ∧
    ∀ k i, digitRows[k]? = some i → ∀ s, exec i s = .next (afterValue (BitVec.ofNat 5 (26 + k)) s)

/-- For every state: in SCAN with SCAN_IDX > 0, SYM.PAD adds one to PAD_COUNT and SYM.LF to LF_COUNT, and SCAN_IDX goes
down by one; with SCAN_IDX = 0 the scan ends; in UNPACK both raise InvalidCharacter at SRC_CURSOR + j with all of the
error entry; in the other phases nothing changes. Everything not named is unchanged. Acting by the phase is the
model's reading (log entry 10). That it acts so also where the row's byte does not stand in SRC is the model's choice
(log entry 27). (41_symbol_decoder.md R114, R115, R117, 40_padding_validator.md R81, R82, 60_exceptions.md R186) -/
def Obligations.PadAndNewlineRowsRunByPosition : Prop :=
  ∀ s : State,
    (s.phase = .scan → s.scanIdx ≠ 0#32 →
      exec .symPad s = .next { s with padCount := s.padCount + 1#32, scanIdx := s.scanIdx - 1#32 } ∧
      exec .symLf s = .next { s with lfCount := s.lfCount + 1#32, scanIdx := s.scanIdx - 1#32 }) ∧
    (s.phase = .scan → s.scanIdx = 0#32 →
      exec .symPad s = .next { s with phase := .geom } ∧ exec .symLf s = .next { s with phase := .geom }) ∧
    (s.phase = .unpack → exec .symPad s = .next (afterBadCharacter s) ∧ exec .symLf s = .next (afterBadCharacter s)) ∧
    (s.phase ≠ .scan → s.phase ≠ .unpack → exec .symPad s = .next s ∧ exec .symLf s = .next s)

/-- For every state and code: in SCAN SYM.INVALID ends the scan without an error; in UNPACK it raises InvalidCharacter at
SRC_CURSOR + j with all of the error entry; in the other phases nothing changes. Everything not named is unchanged.
Acting by the phase is the model's reading (log entry 10). That it acts so also where the row's byte does not stand in
SRC is the model's choice (log entry 27). (41_symbol_decoder.md R116, R117, 40_padding_validator.md R83,
60_exceptions.md R181, R186) -/
def Obligations.InvalidRowRunsByPosition : Prop :=
  ∀ (code : Byte) (s : State),
    (s.phase = .scan → exec (.symInvalid code) s = .next { s with phase := .geom }) ∧
    (s.phase = .unpack → exec (.symInvalid code) s = .next (afterBadCharacter s)) ∧
    (s.phase ≠ .scan → s.phase ≠ .unpack → exec (.symInvalid code) s = .next s)

/-- For every code c from 0x41 to 0x5A, the row c decodes to and the row c + 0x20 decodes to have the same outcome in
every state. In states where the byte does not stand in SRC the outcome is the model's choice (log entry 27).
(41_symbol_decoder.md R112, 30_encoding.md R74) -/
def Obligations.LowercaseActsAsUppercase : Prop :=
  ∀ c : Byte, 0x41 ≤ c.toNat → c.toNat ≤ 0x5A →
    ∃ i j, decode (.sym8 c) = .ok i ∧ decode (.sym8 (c + 0x20#8)) = .ok j ∧ i ≠ j ∧ ∀ s, exec i s = exec j s

/-- In SCAN with SCAN_IDX > 0 and the byte SRC[SCAN_IDX - 1] inside the input: of class PAD, PV.SCAN.PAD adds one to
PAD_COUNT and takes one from SCAN_IDX; of class LF, PV.SCAN.LF does so with LF_COUNT; of any other class PV.SCAN.END
sets PHASE to GEOM. With SCAN_IDX = 0 PV.SCAN.END does so without reading. Nothing else changes. (R81, R82, R83) -/
def Obligations.ScanRowsFollowTheClass : Prop :=
  ∀ s : State, s.phase = .scan →
    (s.scanIdx = 0#32 → exec .pvScanEnd s = .next { s with phase := .geom }) ∧
    (s.scanIdx ≠ 0#32 → s.scanIdx.toNat ≤ s.srcLen.toNat → s.scanIdx.toNat ≤ s.cfg.srcCap.toNat →
      (classOf (s.src.read (s.scanIdx.toNat - 1)) = .pad →
        exec .pvScanPad s = .next { s with padCount := s.padCount + 1#32, scanIdx := s.scanIdx - 1#32 }) ∧
      (classOf (s.src.read (s.scanIdx.toNat - 1)) = .lf →
        exec .pvScanLf s = .next { s with lfCount := s.lfCount + 1#32, scanIdx := s.scanIdx - 1#32 }) ∧
      (classOf (s.src.read (s.scanIdx.toNat - 1)) ∈ [SymClass.upper, .lower, .digit, .invalid] →
        exec .pvScanEnd s = .next { s with phase := .geom }))

/-- PV.SCAN.PAD, PV.SCAN.LF and PV.SCAN.END are refused outside SCAN, and where the byte looked at is of another class;
the GEOM rows outside GEOM, PV.ALLOC also for an invalid TRAILING_LEN; STEP.UNPACK outside UNPACK; STEP.DONE outside
UNPACK or with content left. The refusal is the model's choice (log entry 11). (30_encoding.md R75,
43_decode_transaction.md R154) -/
def Obligations.UnselectedPhaseRowsAreRefused : Prop :=
  ∀ s : State,
    (s.phase ≠ .scan → exec .pvScanPad s = .refused .notSelected ∧ exec .pvScanLf s = .refused .notSelected ∧
      exec .pvScanEnd s = .refused .notSelected) ∧
    (s.scanIdx = 0#32 → exec .pvScanPad s = .refused .notSelected ∧ exec .pvScanLf s = .refused .notSelected) ∧
    (s.scanIdx ≠ 0#32 →
      (classOf (s.src.read (s.scanIdx.toNat - 1)) ≠ .pad → exec .pvScanPad s = .refused .notSelected) ∧
      (classOf (s.src.read (s.scanIdx.toNat - 1)) ≠ .lf → exec .pvScanLf s = .refused .notSelected) ∧
      (classOf (s.src.read (s.scanIdx.toNat - 1)) ∈ [SymClass.pad, .lf] →
        exec .pvScanEnd s = .refused .notSelected)) ∧
    (s.phase ≠ .geom → exec .pvGeomContent s = .refused .notSelected ∧ exec .pvGeomQuanta s = .refused .notSelected ∧
      exec .pvGeomTrailing s = .refused .notSelected ∧ exec .pvAlloc s = .refused .notSelected ∧
      exec .stepGeom s = .refused .notSelected) ∧
    (s.trailingLen ∈ [1#3, 3#3, 6#3] → exec .pvAlloc s = .refused .notSelected) ∧
    (s.phase ≠ .unpack → exec .stepUnpack s = .refused .notSelected ∧ exec .stepDone s = .refused .notSelected) ∧
    (s.srcCursor ≠ s.contentLen → exec .stepDone s = .refused .notSelected)

/-- In GEOM, PV.GEOM.CONTENT sets CONTENT_LEN to SCAN_IDX, which under the invariant equals SRC_LEN - PAD_COUNT -
LF_COUNT; PV.GEOM.QUANTA sets FULL_QUANTA to CONTENT_LEN div 8; PV.GEOM.TRAILING sets TRAILING_LEN to CONTENT_LEN mod
8; nothing else changes. (R85, R86, R87) -/
def Obligations.GeometryRowsWriteTheirRegister : Prop :=
  ∀ s : State, s.phase = .geom →
    exec .pvGeomContent s = .next { s with contentLen := s.scanIdx } ∧
    (Inv s → s.scanIdx.toNat = s.srcLen.toNat - s.padCount.toNat - s.lfCount.toNat) ∧
    (∃ q : Word, q.toNat = s.contentLen.toNat / 8 ∧ exec .pvGeomQuanta s = .next { s with fullQuanta := q }) ∧
    ∃ r : BitVec 3, r.toNat = s.contentLen.toNat % 8 ∧ exec .pvGeomTrailing s = .next { s with trailingLen := r }

/-- In every state PV.TL0, PV.TL2, PV.TL4, PV.TL5, PV.TL7 answer a next state in which SIZE is 5 * FULL_QUANTA plus 0, 1,
2, 3, 4, and nothing else changes. That SIZE stands in a field of its own is the model's (log entry 5). That the rows
act in every state, not only where TRAILING_LEN in a GEOM step selects them, is the model's choice (log entry 26).
(40_padding_validator.md R90, R92, R94, R95, R97, R98) -/
def Obligations.ValidTrailingLengthsContribute : Prop :=
  ∀ s : State,
    exec .pvTL0 s = .next { s with size := 5 * s.fullQuanta.toNat + 0 } ∧
    exec .pvTL2 s = .next { s with size := 5 * s.fullQuanta.toNat + 1 } ∧
    exec .pvTL4 s = .next { s with size := 5 * s.fullQuanta.toNat + 2 } ∧
    exec .pvTL5 s = .next { s with size := 5 * s.fullQuanta.toNat + 3 } ∧
    exec .pvTL7 s = .next { s with size := 5 * s.fullQuanta.toNat + 4 }

/-- In every state PV.TL1, PV.TL3 and PV.TL6 enter the error: ERR_CODE InvalidTrailingQuantumLength, ERR_POS 0, DST_LEN 0,
PHASE ERROR, every byte of DST unspecified, and nothing else changes. That the rows act in every state, not only where
TRAILING_LEN in a GEOM step selects them, is the model's choice (log entry 26). (40_padding_validator.md R91, R93,
R96, 60_exceptions.md R182, R186) -/
def Obligations.InvalidTrailingLengthsRaise : Prop :=
  ∀ s : State,
    exec .pvTL1 s = .next (afterRaise .invalidTrailingQuantumLength 0#32 s) ∧
    exec .pvTL3 s = .next (afterRaise .invalidTrailingQuantumLength 0#32 s) ∧
    exec .pvTL6 s = .next (afterRaise .invalidTrailingQuantumLength 0#32 s)

/-- In GEOM with a valid TRAILING_LEN: if SIZE > DST_CAP, PV.ALLOC enters the error AllocationFailure with ERR_POS 0;
otherwise DST_LEN becomes SIZE; nothing else changes. That SIZE is what the model's scratch field holds, whatever was
computed before (log entry 5), and that the row is selected by PHASE and a valid TRAILING_LEN, whichever actions of
the step have run (log entry 11), is the model's choice. (40_padding_validator.md R98, R100) -/
def Obligations.AllocationChecksCapacity : Prop :=
  ∀ s : State, s.phase = .geom → s.trailingLen ∈ [0#3, 2#3, 4#3, 5#3, 7#3] →
    (s.cfg.dstCap.toNat < s.size → exec .pvAlloc s = .next (afterRaise .allocationFailure 0#32 s)) ∧
    (s.size ≤ s.cfg.dstCap.toNat →
      ∃ d : Word, d.toNat = s.size ∧ exec .pvAlloc s = .next { s with dstLen := d })

/-- In GEOM, STEP.GEOM answers a next state with CONTENT_LEN = SCAN_IDX, FULL_QUANTA and TRAILING_LEN its quotient and
remainder by 8. For remainder 1, 3, 6 it is InvalidTrailingQuantumLength; otherwise, with SIZE the decoded size, it is
AllocationFailure if SIZE > DST_CAP, else DST_LEN = SIZE, PHASE = UNPACK, and ERR_CODE, ERR_POS and DST as before.
SRC, SRC_LEN, the counts, the cursors, the parameters and the pending host actions are unchanged. (R157) -/
def Obligations.GeomStepMeasuresAndDecides : Prop :=
  ∀ s : State, s.phase = .geom →
    ∃ t, exec .stepGeom s = .next t ∧ KeepsInputSide s t ∧
      t.contentLen = s.scanIdx ∧ t.fullQuanta.toNat = s.scanIdx.toNat / 8 ∧
      t.trailingLen.toNat = s.scanIdx.toNat % 8 ∧ t.srcCursor = s.srcCursor ∧ t.dstCursor = s.dstCursor ∧
      (s.scanIdx.toNat % 8 ∈ [1, 3, 6] → Raised .invalidTrailingQuantumLength 0 t) ∧
      (s.scanIdx.toNat % 8 ∉ [1, 3, 6] → s.cfg.dstCap.toNat < 5 * s.scanIdx.toNat / 8 →
        Raised .allocationFailure 0 t) ∧
      (s.scanIdx.toNat % 8 ∉ [1, 3, 6] → 5 * s.scanIdx.toNat / 8 ≤ s.cfg.dstCap.toNat →
        t.phase = .unpack ∧ t.dstLen.toNat = 5 * s.scanIdx.toNat / 8 ∧ t.errCode = s.errCode ∧
          t.errPos = s.errPos ∧ t.dst = s.dst)

/-- In GEOM, STEP.GEOM is PV.GEOM.CONTENT, PV.GEOM.QUANTA, PV.GEOM.TRAILING, the row that TRAILING_LEN decodes to,
PV.ALLOC, then PHASE = UNPACK, each only if no error was raised before it; at the step's end the registers that mean
nothing outside it hold free values (log entry 4). (40_padding_validator.md R101, 43_decode_transaction.md R157) -/
def Obligations.GeomStepRunsItsRowsInOrder : Prop :=
  ∀ s : State, s.phase = .geom →
    exec .stepGeom s =
      endStep (andThen (exec .pvGeomContent s) fun a => andThen (exec .pvGeomQuanta a) fun b =>
        andThen (exec .pvGeomTrailing b) fun c => andThen (runTrailing c) fun d =>
          andThen (exec .pvAlloc d) fun e => .next { e with phase := .unpack })

/-- In every state with room in DST, QU.UNPACK8, 7, 5, 4, 2 store 5, 4, 3, 2, 1 bytes at DST[DST_CURSOR] upward, byte k
being the shift form Bk of V[0..n-1]; every other byte of DST reads as before and no other field changes. That the
rows act in every state, not only where an UNPACK step selects them, is the model's choice (log entry 26).
(42_quantum_unpacker.md R130 to R135, R137) -/
def Obligations.UnpackRowsEmitTheirBytes : Prop :=
  ∀ row ∈ unpackRows, ∀ s : State, s.dstCursor.toNat + row.2.2 ≤ s.cfg.dstCap.toNat →
    ∃ d : Memory, exec row.1 s = .next { s with dst := d } ∧
      (∀ k < row.2.2, d.byte? (s.dstCursor.toNat + k) = some (shiftByte s.v k)) ∧
      ∀ a, a < s.dstCursor.toNat ∨ s.dstCursor.toNat + row.2.2 ≤ a → d.read a = s.dst.read a ∧ d.byte? a = s.dst.byte? a

/-- With DST_CURSOR plus the row's bytes above DST_CAP, each unpack row faults with an out-of-range DST index. The fault
is the model's (log entry 16); no run reaches it. That the rows act in every state, not only where an UNPACK step
selects them, is the model's choice (log entry 26). (00_scope.md R7, 20_memory.md R46) -/
def Obligations.UnpackRowsStopAtTheEndOfDst : Prop :=
  ∀ row ∈ unpackRows, ∀ s : State, s.cfg.dstCap.toNat < s.dstCursor.toNat + row.2.2 →
    ∃ a, s.cfg.dstCap.toNat ≤ a ∧ exec row.1 s = .fault (.dstIndexOutOfRange a)

/-- For QU.UNPACK7, 5, 4, 2 with 3, 1, 4, 2 discarded bits: two states that differ only in V, and there only in the
discarded low bits of the last character and in the absent characters, get the same DST. That the rows act in every
state, not only where an UNPACK step selects them, is the model's choice (log entry 26). (42_quantum_unpacker.md R136) -/
def Obligations.DiscardedBitsAreIgnored : Prop :=
  ∀ row ∈ [(Instr.quUnpack7, 7, 3), (.quUnpack5, 5, 1), (.quUnpack4, 4, 4), (.quUnpack2, 2, 2)],
    ∀ (s : State) (w : Vector Sym 8), AgreeButDiscarded row.2.1 row.2.2 s.v w →
      s.dstCursor.toNat + 5 * row.2.1 / 8 ≤ s.cfg.dstCap.toNat →
        ∃ d, exec row.1 s = .next { s with dst := d } ∧ exec row.1 { s with v := w } = .next { s with v := w, dst := d }

/-- For a quantum of n = 8, 7, 5, 4 or 2 acceptable characters inside the input whose bytes fit in DST, STEP.UNPACK
answers a next state, still in UNPACK: SRC_CURSOR goes up by n and DST_CURSOR by floor(5n/8); the bytes from the old
DST_CURSOR are the whole bytes of the characters' 5-bit values written one after the other; every other byte of DST
and every other register of the spec but V and SCAN_IDX is unchanged. (43_decode_transaction.md R158,
42_quantum_unpacker.md R137, 10_state.md R12) -/
def Obligations.UnpackStepDecodesOneQuantum : Prop :=
  ∀ s : State, QuantumFits s → firstBad (quantumChars s) = none →
    ∃ t, exec .stepUnpack s = .next t ∧ KeepsInputSide s t ∧ KeepsGeometry s t ∧ t.phase = .unpack ∧
      t.srcCursor.toNat = s.srcCursor.toNat + s.quantumLength ∧
      t.dstCursor.toNat = s.dstCursor.toNat + 5 * s.quantumLength / 8 ∧
      t.dstLen = s.dstLen ∧ t.errCode = s.errCode ∧ t.errPos = s.errPos ∧
      (∀ k < 5 * s.quantumLength / 8, t.dst.byte? (s.dstCursor.toNat + k) =
        (bytesOfBits (5 * s.quantumLength / 8) (contentBits (quantumChars s)))[k]?) ∧
      ∀ a, a < s.dstCursor.toNat ∨ s.dstCursor.toNat + 5 * s.quantumLength / 8 ≤ a → t.dst.read a = s.dst.read a

/-- For a quantum inside the input whose first unacceptable character is character j, STEP.UNPACK answers the error
InvalidCharacter with ERR_POS = SRC_CURSOR + j, DST_LEN 0 and every byte of DST unspecified; the cursors, the
geometry, the counts, SRC and SRC_LEN keep their values. (43_decode_transaction.md R158, 60_exceptions.md R181, R185,
R186) -/
def Obligations.UnpackStepReportsTheFirstBadCharacter : Prop :=
  ∀ (s : State) (j : Nat), QuantumReadable s → firstBad (quantumChars s) = some j →
    ∃ t, exec .stepUnpack s = .next t ∧ KeepsInputSide s t ∧ KeepsGeometry s t ∧
      t.srcCursor = s.srcCursor ∧ t.dstCursor = s.dstCursor ∧
      Raised .invalidCharacter (s.srcCursor.toNat + j) t

/-- In UNPACK with SRC_CURSOR = CONTENT_LEN, STEP.DONE and STEP.UNPACK both answer the state with PHASE = DONE and nothing
else changed; under the invariant DST_CURSOR = DST_LEN and no error is recorded there. (R159) -/
def Obligations.UnpackStepEndsInDone : Prop :=
  ∀ s : State, s.phase = .unpack → s.srcCursor = s.contentLen →
    exec .stepDone s = .next { s with phase := .done } ∧ exec .stepUnpack s = .next { s with phase := .done } ∧
    (Inv s → s.dstCursor = s.dstLen ∧ s.errCode = .none)

/-- In UNPACK with content left, STEP.UNPACK is the run of the SYM8 rows that the quantum's bytes decode to, character by
character, then of the QLEN4 row that its length decodes to, then the cursor advance, each only if no error was raised
before it; a length with no row is refused. That the SYM8 rows run as the step's content characters is the model's
reading (log entry 10); that a length with no row is refused (log entry 17), and that at the step's end the registers
that mean nothing outside it hold free values (log entry 4), is the model's choice of form. (43_decode_transaction.md
R158, 30_encoding.md R64, 42_quantum_unpacker.md R140) -/
def Obligations.UnpackStepRunsDecodedRows : Prop :=
  ∀ s : State, s.phase = .unpack → s.srcCursor ≠ s.contentLen →
    exec .stepUnpack s =
      endStep (andThen (runSymbols s.quantumLength { s with lane := 0#3 }) fun t =>
        andThen (runQuantum s.quantumLength t) fun u => .next (u.advanced s.quantumLength))

/-- With BUSY = 0 and SRC_LEN at most SRC_CAP, CMD.START answers the state with ERR_CODE, ERR_POS, DST_LEN, PAD_COUNT,
LF_COUNT, CONTENT_LEN, FULL_QUANTA, TRAILING_LEN and both cursors 0, SCAN_IDX = SRC_LEN, PHASE = SCAN, and SRC_LEN,
SRC, DST, V and all else unchanged. (R155) -/
def Obligations.StartClearsResultsAndScans : Prop :=
  ∀ s : State, s.busy = false → s.srcLen.toNat ≤ s.cfg.srcCap.toNat →
    exec .cmdStart s = .next
      { s with
        errCode := .none, errPos := 0#32, dstLen := 0#32, padCount := 0#32, lfCount := 0#32, contentLen := 0#32
        fullQuanta := 0#32, trailingLen := 0#3, srcCursor := 0#32, dstCursor := 0#32
        scanIdx := s.srcLen, phase := .scan }

/-- With BUSY = 0, CMD.CLEAR answers the state with PHASE = IDLE and ERR_CODE, ERR_POS, DST_LEN, PAD_COUNT, LF_COUNT,
CONTENT_LEN, FULL_QUANTA, TRAILING_LEN and both cursors 0 and all else unchanged, and all three flags are then 0; with
BUSY = 1 it changes nothing. (R153) -/
def Obligations.ClearReturnsToIdle : Prop :=
  ∀ s : State,
    (s.busy = false → ∃ t, exec .cmdClear s = .next t ∧ t.busy = false ∧ t.done = false ∧ t.err = false ∧
      t = { s with
            errCode := .none, errPos := 0#32, dstLen := 0#32, padCount := 0#32, lfCount := 0#32, contentLen := 0#32
            fullQuanta := 0#32, trailingLen := 0#3, srcCursor := 0#32, dstCursor := 0#32, phase := .idle }) ∧
    (s.busy = true → exec .cmdClear s = .next s)

/-- With BUSY = 1 both commands answer the same state, and so does the step that takes a CTRL write, by register number or
byte offset, but for the action itself being gone. (R217) -/
def Obligations.BusyBlockLosesCommands : Prop :=
  ∀ s : State, s.busy = true →
    exec .cmdStart s = .next s ∧ exec .cmdClear s = .next s ∧
    ∀ (word : BitVec 32) (rest : List HostAction),
      (s.inputs = .writeReg 0 word :: rest ∨ s.inputs = .writeBus 0 word :: rest) →
        step s = .next { s with inputs := rest }

/-- With BUSY = 0 and SRC_LEN > SRC_CAP, CMD.START is refused. The spec gives it no meaning (log entry 14). (10_state.md
R21, 93_implementation_defined.md U5) -/
def Obligations.StartBeyondCapacityIsRefused : Prop :=
  ∀ s : State, s.busy = false → s.cfg.srcCap.toNat < s.srcLen.toNat →
    exec .cmdStart s = .refused .srcLenExceedsCapacity

/-- When the host's pending action writes a word to CTRL, by register number 0 or byte offset 0, the step is exec of the
command the word decodes to on the state without that action: of CMD.START for 1 and of CMD.CLEAR for 2; for every
other word only the action is gone. (10_state.md R17, 30_encoding.md R65, R71, 43_decode_transaction.md R152, R153) -/
def Obligations.CtrlWritesRunTheDecodedCommand : Prop :=
  ∀ (s : State) (word : BitVec 32) (rest : List HostAction),
    (s.inputs = .writeReg 0 word :: rest ∨ s.inputs = .writeBus 0 word :: rest) →
      (∀ i, decode (.ctrl32 word) = .ok i → step s = exec i { s with inputs := rest }) ∧
      (word = 1#32 → step s = exec .cmdStart { s with inputs := rest }) ∧
      (word = 2#32 → step s = exec .cmdClear { s with inputs := rest }) ∧
      (word ≠ 1#32 → word ≠ 2#32 → step s = .next { s with inputs := rest })

/-- With no action pending: in GEOM the step is exec of STEP.GEOM; in UNPACK of STEP.DONE or STEP.UNPACK; in SCAN with
SCAN_IDX = 0 of PV.SCAN.END, and otherwise, the byte looked at being inside the input, of the SYM8 row that byte
decodes to. A pending wait adds only its own removal. Acting by the phase is the model's reading (log entries 6, 10).
(43_decode_transaction.md R154, R156, R157, R158, 10_state.md R13, R16) -/
def Obligations.StepRunsTheSelectedOperation : Prop :=
  ∀ s : State,
    (s.inputs = [] →
      (s.phase = .geom → step s = exec .stepGeom s) ∧
      (s.phase = .unpack → s.srcCursor = s.contentLen → step s = exec .stepDone s) ∧
      (s.phase = .unpack → s.srcCursor ≠ s.contentLen → step s = exec .stepUnpack s) ∧
      (s.phase = .scan → s.scanIdx = 0#32 → step s = exec .pvScanEnd s) ∧
      (s.phase = .scan → s.scanIdx ≠ 0#32 → ∀ c, s.srcByte (s.scanIdx.toNat - 1) = .ok c →
        ∀ i, decode (.sym8 c) = .ok i → step s = exec i s)) ∧
    ∀ rest, s.inputs = .wait :: rest → step s = blockStep { s with inputs := rest }

/-- In IDLE, DONE and ERROR with no action pending a step answers the same state; a pending wait adds only its own
removal. That a step at rest answers the same state, and does not stop, is the model's form of it (log entry 7).
(43_decode_transaction.md R161) -/
def Obligations.RestStatesHoldEverything : Prop :=
  ∀ s : State, s.busy = false →
    (s.inputs = [] → step s = .next s) ∧ ∀ rest, s.inputs = .wait :: rest → step s = .next { s with inputs := rest }

/-- STATUS is 0b000 exactly in IDLE, 0b001 exactly in SCAN, GEOM and UNPACK, 0b010 exactly in DONE, 0b100 exactly in
ERROR; bits 0, 1, 2 are BUSY, DONE, ERR. (R18) -/
def Obligations.StatusFollowsThePhase : Prop :=
  ∀ s : State,
    (s.status = 0b000#3 ↔ s.phase = .idle) ∧
    (s.status = 0b001#3 ↔ s.phase = .scan ∨ s.phase = .geom ∨ s.phase = .unpack) ∧
    (s.status = 0b010#3 ↔ s.phase = .done) ∧ (s.status = 0b100#3 ↔ s.phase = .error) ∧
    s.status.getLsbD 0 = s.busy ∧ s.status.getLsbD 1 = s.done ∧ s.status.getLsbD 2 = s.err ∧
    s.status ∈ [0b000#3, 0b001#3, 0b010#3, 0b100#3] ∧
    (s.busy = true → ∀ rest, s.inputs = .readReg 1 :: rest →
      step s = .next { s with inputs := rest, busData := 1#32 })

/-- With BUSY = 0 and a pending read of register n, by number or at byte offset 4n, the step answers the state with that
action gone and the value returned: registers 1 to 12 their current value zero-extended, ERR_CODE being 0 for no
error, 1 for InvalidCharacter, 2 for InvalidTrailingQuantumLength, 3 for AllocationFailure; 0 for CTRL and for every
number above 12. (10_state.md R16, R18 to R28, 60_exceptions.md R180, 95_test_vectors.md 2.5) -/
def Obligations.RegistersReadBackAtRest : Prop :=
  ∀ (s : State) (n : Nat) (rest : List HostAction), s.busy = false →
    (s.inputs = .readReg n :: rest ∨ s.inputs = .readBus (4 * n) :: rest) →
      ∃ x, step s = .next { s with inputs := rest, busData := x } ∧
        (n = 0 → x = 0#32) ∧ (n = 1 → x.toNat = s.status.toNat) ∧
        (n = 2 → (s.errCode = .none → x = 0#32) ∧ (s.errCode = .invalidCharacter → x = 1#32) ∧
          (s.errCode = .invalidTrailingQuantumLength → x = 2#32) ∧ (s.errCode = .allocationFailure → x = 3#32)) ∧
        (n = 3 → x = s.errPos) ∧ (n = 4 → x = s.srcLen) ∧ (n = 5 → x = s.dstLen) ∧ (n = 6 → x = s.padCount) ∧
        (n = 7 → x = s.lfCount) ∧ (n = 8 → x = s.contentLen) ∧ (n = 9 → x = s.fullQuanta) ∧
        (n = 10 → x.toNat = s.trailingLen.toNat) ∧ (n = 11 → x = s.srcCursor) ∧ (n = 12 → x = s.dstCursor) ∧
        (12 < n → x = 0#32)

/-- While BUSY, a read of register n from 2 to 12, by number or at byte offset 4n, answers the state with the action gone,
the next free value cut to the register's width (2 bits for ERR_CODE, 3 for TRAILING_LEN, 32 for the others) as the
value returned, and one more free value drawn; STATUS reads 1. Which free value it is, is the model's (log entry 13).
That CTRL and the numbers above 12 read 0 then too is DEDUCED (log entry 12). (10_state.md R16, R28,
95_test_vectors.md 2.5) -/
def Obligations.BusyReadsReturnAnyValueOfTheWidth : Prop :=
  ∀ (s : State) (n : Nat) (rest : List HostAction), s.busy = true →
    (s.inputs = .readReg n :: rest ∨ s.inputs = .readBus (4 * n) :: rest) →
      (n = 1 → step s = .next { s with inputs := rest, busData := 1#32 }) ∧
      (n = 0 ∨ 12 < n → step s = .next { s with inputs := rest, busData := 0#32 }) ∧
      (2 ≤ n → n ≤ 12 →
        ∃ x, step s = .next { s with inputs := rest, busData := x, draws := s.draws + 1 } ∧
          (n = 2 → x.toNat < 4 ∧ x.toNat = (Config.freeWord s.draws).toNat % 4) ∧
          (n = 10 → x.toNat < 8 ∧ x.toNat = (Config.freeWord s.draws).toNat % 8) ∧
          (n ≠ 2 → n ≠ 10 → x = Config.freeWord s.draws))

/-- A pending write of register n other than 0, by number or at byte offset 4n: with n = 4 and BUSY = 0, SRC_LEN takes the
value; with BUSY = 1, or n other than 4, only the action is gone. (10_state.md R16, R21) -/
def Obligations.RegisterWritesReachOnlySrcLen : Prop :=
  ∀ (s : State) (n : Nat) (value : BitVec 32) (rest : List HostAction), n ≠ 0 →
    (s.inputs = .writeReg n value :: rest ∨ s.inputs = .writeBus (4 * n) value :: rest) →
      (n = 4 → s.busy = false → step s = .next { s with inputs := rest, srcLen := value }) ∧
      (n ≠ 4 ∨ s.busy = true → step s = .next { s with inputs := rest })

/-- With BUSY = 0 a pending write of SRC[i], i < SRC_CAP, stores the byte at i and every other byte of SRC reads as
before; likewise DST[i], i < DST_CAP (storing to DST is the model's reading, log entry 20). While BUSY both are
refused (log entry 15). Nothing else changes. (43_decode_transaction.md R170, 20_memory.md R50,
70_reset_and_hazards.md R213, R216) -/
def Obligations.HostBufferWritesNeedRest : Prop :=
  ∀ (s : State) (i : Nat) (b : Byte) (rest : List HostAction),
    (s.inputs = .writeSrc i b :: rest →
      (s.busy = true → step s = .refused .srcWriteWhileBusy) ∧
      (s.busy = false → i < s.cfg.srcCap.toNat →
        ∃ m : Memory, step s = .next { s with inputs := rest, src := m } ∧ m.byte? i = some b ∧
          ∀ a, a ≠ i → m.read a = s.src.read a)) ∧
    (s.inputs = .writeDst i b :: rest →
      (s.busy = true → step s = .refused .dstWriteWhileBusy) ∧
      (s.busy = false → i < s.cfg.dstCap.toNat →
        ∃ m : Memory, step s = .next { s with inputs := rest, dst := m } ∧ m.byte? i = some b ∧
          ∀ a, a ≠ i → m.read a = s.dst.read a))

/-- A pending read of DST[i], i < DST_CAP: with BUSY = 0 it returns the byte the buffer holds, zero-extended, and only the
action is gone; while BUSY it returns the low byte of the next free value, and one more free value is drawn. Which
free value it is, is the model's (log entry 13). (43_decode_transaction.md R170, 90_conflicts.md C9,
93_implementation_defined.md U3) -/
def Obligations.DstReadsReturnWhatTheBufferHolds : Prop :=
  ∀ (s : State) (i : Nat) (rest : List HostAction), s.inputs = .readDst i :: rest → i < s.cfg.dstCap.toNat →
    (s.busy = false → ∃ x, step s = .next { s with inputs := rest, busData := x } ∧ x.toNat < 256 ∧
      x.toNat = (s.dst.read i).toNat ∧ ∀ b, s.dst.byte? i = some b → x.toNat = b.toNat) ∧
    (s.busy = true → ∃ x, step s = .next { s with inputs := rest, busData := x, draws := s.draws + 1 } ∧
      x.toNat < 256 ∧ x.toNat = (Config.freeWord s.draws).toNat % 256)

/-- In State.reset PHASE is IDLE, STATUS 0, and ERR_CODE, ERR_POS, SRC_LEN, DST_LEN, PAD_COUNT, LF_COUNT, CONTENT_LEN,
FULL_QUANTA, TRAILING_LEN and both cursors are 0; no byte of SRC or DST is specified. (R32) -/
def Obligations.ResetStateIsIdleAndZero : Prop :=
  State.reset.phase = .idle ∧ State.reset.status = 0b000#3 ∧ State.reset.errCode.code = 0#2 ∧
    State.reset.errPos = 0#32 ∧ State.reset.srcLen = 0#32 ∧ State.reset.dstLen = 0#32 ∧ State.reset.padCount = 0#32 ∧
    State.reset.lfCount = 0#32 ∧ State.reset.contentLen = 0#32 ∧ State.reset.fullQuanta = 0#32 ∧
    State.reset.trailingLen = 0#3 ∧ State.reset.srcCursor = 0#32 ∧ State.reset.dstCursor = 0#32 ∧
    ∀ i, State.reset.src.byte? i = none ∧ State.reset.dst.byte? i = none

/-- A pending reset answers, from every state, one in which PHASE is IDLE, all host-visible registers read 0, and no byte
of SRC or DST is specified; the parameters and the host's later actions stay. (R211) -/
def Obligations.ResetAbandonsAnyState : Prop :=
  ∀ (s : State) (rest : List HostAction), s.inputs = .reset :: rest →
    ∃ t, step s = .next t ∧ t.phase = .idle ∧ t.busy = false ∧ (∀ n, t.regValue n = 0#32) ∧
      (∀ i, t.src.byte? i = none ∧ t.dst.byte? i = none) ∧ t.cfg = s.cfg ∧ t.inputs = rest

/-- Inv holds of State.reset. (10_state.md R32, 70_reset_and_hazards.md R210) -/
def Obligations.InvariantHoldsAtReset : Prop :=
  Inv State.reset

/-- From every state with Inv, if a step answers a next state, that state has Inv: canonical buffers within their
capacities; ERR_CODE nonzero exactly in ERROR; ERR_POS nonzero only with InvalidCharacter; DST_LEN 0 in ERROR and at
most DST_CAP always; FULL_QUANTA and TRAILING_LEN the quotient and remainder of CONTENT_LEN; SRC_LEN at most SRC_CAP
while BUSY; and the scan, geometry, unpacking and completion facts of each phase. (10_state.md R12, R14, R19, R20,
R22, R25, R26, R27, 40_padding_validator.md R80, R98, R100, 43_decode_transaction.md R158, R159) -/
def Obligations.EveryStepKeepsTheInvariant : Prop :=
  ∀ s t : State, Inv s → step s = .next t → Inv t

/-- From every state with Inv in which the pending host action, if any, keeps the duties of the host table and stays in
the address spaces, a step answers a next state: no fault and no refusal. (43_decode_transaction.md R162, R170,
00_scope.md R7, 20_memory.md R44, R46) -/
def Obligations.DutifulRunsNeverStop : Prop :=
  ∀ s : State, Inv s → Dutiful s → ∃ t, step s = .next t

/-- When the block moves (no host action but a wait), PHASE goes from SCAN to SCAN or GEOM, from GEOM to UNPACK or ERROR,
from UNPACK to UNPACK, DONE or ERROR, and from a rest state nowhere. (R154) -/
def Obligations.PhasesFollowTheFixedOrder : Prop :=
  ∀ s t : State, BlockMoves s → step s = .next t → t.phase ∈ successors s.phase

/-- When the block moves, SRC, SRC_LEN and the parameters are unchanged; DST is unchanged unless PHASE was UNPACK or the
step entered ERROR. (10_state.md R21, R29, R30, 20_memory.md R40, R44) -/
def Obligations.BlockLeavesTheInputAlone : Prop :=
  ∀ s t : State, BlockMoves s → step s = .next t →
    t.src = s.src ∧ t.srcLen = s.srcLen ∧ t.cfg = s.cfg ∧
      (s.phase ≠ .unpack → t.phase ≠ .error → t.dst = s.dst)

/-- If a step leads from BUSY = 0 to BUSY = 1, the pending action wrote 1 to CTRL and PHASE is then SCAN. If a step leads
from BUSY = 1 to BUSY = 0, either the block moved or the host applied reset. (43_decode_transaction.md R152, R153,
R161, 70_reset_and_hazards.md R211) -/
def Obligations.OnlyStartLeavesRest : Prop :=
  ∀ s t : State, step s = .next t →
    (s.busy = false → t.busy = true → WritesStart s ∧ t.phase = .scan) ∧
    (s.busy = true → t.busy = false → BlockMoves s ∨ ∃ rest, s.inputs = .reset :: rest)

/-- When the block moves from another phase into ERROR: ERR_CODE is one of the three errors; ERR_POS is 0 unless it is
InvalidCharacter; DST_LEN is 0; no byte of DST is specified; PAD_COUNT, LF_COUNT, the cursors, SRC_LEN and SRC keep
their values; the error came from GEOM with a code other than InvalidCharacter, or from UNPACK with InvalidCharacter.
(60_exceptions.md R180, R181, R182, R183, R186) -/
def Obligations.ErrorEntryRecordsTheError : Prop :=
  ∀ s t : State, BlockMoves s → s.phase ≠ .error → step s = .next t → t.phase = .error →
    t.errCode ≠ .none ∧ (t.errCode ≠ .invalidCharacter → t.errPos = 0#32) ∧ t.dstLen = 0#32 ∧
      (∀ k, t.dst.byte? k = none) ∧ t.padCount = s.padCount ∧ t.lfCount = s.lfCount ∧
      t.srcCursor = s.srcCursor ∧ t.dstCursor = s.dstCursor ∧ t.srcLen = s.srcLen ∧ t.src = s.src ∧
      ((s.phase = .geom ∧ t.errCode ≠ .invalidCharacter) ∨ (s.phase = .unpack ∧ t.errCode = .invalidCharacter))

/-- Every step of the block or the host that answers a next state leaves both capacities as they were. (10_state.md R10,
00_scope.md R5) -/
def Obligations.NoStepChangesTheCapacities : Prop :=
  ∀ s t : State, step s = .next t → t.cfg = s.cfg

/-- From every state in which a START is accepted and no host action is pending, CMD.START answers a state from which,
running alone, the machine comes in at most SRC_LEN + 3 steps to rest in a state that reports what decode gives for
SRC[0 .. SRC_LEN - 1]: DONE with the decoded bytes, their count and both cursors at the end, bytes of DST above
untouched; or ERROR with the code, the position and the cursors of R151; with the geometry registers as R150 defines
them, and SRC and SRC_LEN unchanged. (43_decode_transaction.md R150, R151, R162, R163) -/
def Obligations.MachineAgreesWithDecode : Prop :=
  ∀ s : State, Ready s →
    ∃ s0, exec .cmdStart s = .next s0 ∧
      ∃ k ≤ s.srcLen.toNat + 3, ∃ t, core.run k s0 = .next t ∧ t.busy = false ∧ Reported s t

/-- From every ready state, after an accepted START the block is busy after every number of steps below some count and at
rest after it; the count is at most SRC_LEN + 3, and if decode succeeds it is exactly (PAD_COUNT + LF_COUNT + 1) + 1 +
(NQ + 1). (43_decode_transaction.md R162, 40_padding_validator.md R99) -/
def Obligations.TransactionsEndInTheStatedSteps : Prop :=
  ∀ s s0 : State, Ready s → exec .cmdStart s = .next s0 →
    ∃ k, k ≤ s.srcLen.toNat + 3 ∧ (∃ t, core.run k s0 = .next t ∧ t.busy = false) ∧
      (∀ j < k, ∃ u, core.run j s0 = .next u ∧ u.busy = true) ∧
      ∀ out, resultOf s = .ok out →
        k = ((trailerOf (textOf s)).length + 1) + 1 + (quantaOf (contentLenOf (textOf s)) + 1)

/-- Two ready states with the same SRC[0 .. SRC_LEN - 1], SRC_LEN and DST_CAP, whatever else they hold, end their
transactions in states that look the same to the host: every register reads the same, and so does every decoded byte.
(R31) -/
def Obligations.NoHiddenState : Prop :=
  ∀ s s' : State, Ready s → Ready s' → textOf s = textOf s' → s.cfg.dstCap = s'.cfg.dstCap →
    ∀ (s0 s0' t t' : State) (k k' : Nat), exec .cmdStart s = .next s0 → exec .cmdStart s' = .next s0' →
      core.run k s0 = .next t → core.run k' s0' = .next t' → t.busy = false → t'.busy = false →
        LooksTheSame t t' ∧ t.srcLen = t'.srcLen

/-- For every byte sequence that fits in DST_CAP, decode of its conventional encoding (93 K3, general knowledge, log entry
22), with or without a final newline, succeeds with that sequence. (43_decode_transaction.md R164 (1),
93_implementation_defined.md K3) -/
def Obligations.DecodeInvertsTheConventionalEncoder : Prop :=
  ∀ (cap : Nat) (bs : List Byte), bs.length ≤ cap →
    decodeText cap (encodeText bs) = .ok bs ∧ decodeText cap (encodeText bs ++ [0x0A#8]) = .ok bs

/-- If decode succeeds with out, then len(out) is 5 * (c div 8) + tbl(c mod 8) and floor(5c / 8) for the content length c,
c mod 8 is 0, 2, 4, 5 or 7, len(out) is at most the capacity, and every content byte is acceptable.
(40_padding_validator.md R98, 43_decode_transaction.md R150, R164 (4)) -/
def Obligations.DecodedLengthIsTheTableSize : Prop :=
  ∀ (cap : Nat) (text out : List Byte), decodeText cap text = .ok out →
    decodedSize? (contentLenOf text) = some out.length ∧ out.length = 5 * contentLenOf text / 8 ∧
      contentLenOf text % 8 ∈ [0, 2, 4, 5, 7] ∧ out.length ≤ cap ∧
      ∀ c ∈ contentOf text, isContentByte c = true

/-- decode reports InvalidTrailingQuantumLength exactly when the content length mod 8 is 1, 3 or 6; AllocationFailure
exactly when it is not and the size exceeds the capacity; InvalidCharacter at p exactly when neither holds and p is
the least content index whose byte is not UPPER, LOWER or DIGIT. (R184, R185) -/
def Obligations.ErrorsComeInTheFixedPriority : Prop :=
  ∀ (cap : Nat) (text : List Byte),
    (decodeText cap text = .error .invalidTrailingQuantumLength ↔ contentLenOf text % 8 ∈ [1, 3, 6]) ∧
    (decodeText cap text = .error .allocationFailure ↔
      contentLenOf text % 8 ∉ [1, 3, 6] ∧ cap < 5 * contentLenOf text / 8) ∧
    ∀ p, decodeText cap text = .error (.invalidCharacter p) ↔
      contentLenOf text % 8 ∉ [1, 3, 6] ∧ 5 * contentLenOf text / 8 ≤ cap ∧
        (∃ c, (contentOf text)[p]? = some c ∧ isContentByte c = false) ∧
        ∀ q < p, ∃ c, (contentOf text)[q]? = some c ∧ isContentByte c = true

/-- For every input: it is its content followed by its trailer; every trailer byte is = or LF; the content is empty or
ends in another byte; pad and lf are the numbers of = and of LF bytes in the trailer and add up to its length. (R80) -/
def Obligations.TrailerIsTheLongestSuffix : Prop :=
  ∀ text : List Byte,
    text = contentOf text ++ trailerOf text ∧ (∀ c ∈ trailerOf text, c = 0x3D#8 ∨ c = 0x0A#8) ∧
      (∀ c, (contentOf text).getLast? = some c → c ≠ 0x3D#8 ∧ c ≠ 0x0A#8) ∧
      (contentOf text).length = contentLenOf text ∧
      padOf text = (trailerOf text).countP (· == 0x3D#8) ∧ lfOf text = (trailerOf text).countP (· == 0x0A#8) ∧
      contentLenOf text + padOf text + lfOf text = text.length

/-- For every capacity and every input all of whose bytes are = or LF, the empty one included, decode succeeds with no
bytes. (43_decode_transaction.md R164 (2), 40_padding_validator.md R82, R90) -/
def Obligations.TrailerOnlyInputsDecodeToNothing : Prop :=
  ∀ (cap : Nat) (text : List Byte), (∀ c ∈ text, c = 0x3D#8 ∨ c = 0x0A#8) → decodeText cap text = .ok []

/-- For every input of at most SRC_CAP bytes and every DST_CAP of at least floor(5 * SRC_CAP / 8), decode does not report
AllocationFailure. (00_scope.md R5, 60_exceptions.md R183) -/
def Obligations.RoomyDstNeverFailsAllocation : Prop :=
  ∀ (srcCap dstCap : Nat) (text : List Byte), text.length ≤ srcCap → 5 * srcCap / 8 ≤ dstCap →
    decodeText dstCap text ≠ .error .allocationFailure
end

