-- ==== Sys2Proof/Laws/Memory.lean ====
section
/-! SUPPORT. The laws of a byte buffer: read after write, and that every operation keeps the canonical form. -/

namespace Sys2Proof.Laws

open Sys2Proof.Machine

/-! ### The list of cells -/

@[simp] theorem findCell_putCell_same (i : Nat) (b : Byte) (l : List Host.Cell) : findCell i (putCell i b l) = some b := by
  induction l with
  | nil => simp [putCell, findCell]
  | cons cell rest ih =>
    obtain ⟨j, c⟩ := cell
    simp only [putCell]
    split
    · simp [findCell]
    · split
      · simp [findCell]
      · simp [findCell, ih]
        omega

theorem findCell_putCell_other {i k : Nat} (h : k ≠ i) (b : Byte) (l : List Host.Cell) :
    findCell k (putCell i b l) = findCell k l := by
  induction l with
  | nil => simp [putCell, findCell, h.symm]
  | cons cell rest ih =>
    obtain ⟨j, c⟩ := cell
    simp only [putCell]
    split
    · simp [findCell, h.symm]
    · split
      · subst_vars
        simp [findCell, h.symm]
      · simp [findCell, ih]

theorem risingFrom_weaken {lo lo' : Nat} (h : lo' ≤ lo) (l : List Host.Cell) :
    risingFrom lo l = true → risingFrom lo' l = true := by
  cases l with
  | nil => simp [risingFrom]
  | cons cell rest =>
    simp only [risingFrom, Bool.and_eq_true, decide_eq_true_eq]
    exact fun ⟨h1, h2⟩ => ⟨by omega, h2⟩

/-- Listing a byte keeps the indices rising. -/
theorem risingFrom_putCell {lo i : Nat} (hi : lo ≤ i) (b : Byte) (l : List Host.Cell) :
    risingFrom lo l = true → risingFrom lo (putCell i b l) = true := by
  induction l generalizing lo with
  | nil => simp [putCell, risingFrom, hi]
  | cons cell rest ih =>
    obtain ⟨j, c⟩ := cell
    simp only [putCell, risingFrom, Bool.and_eq_true, decide_eq_true_eq]
    intro ⟨h1, h2⟩
    split
    · simp only [risingFrom, Bool.and_eq_true, decide_eq_true_eq]
      exact ⟨hi, by omega, h2⟩
    · split
      · subst_vars
        simp only [risingFrom, Bool.and_eq_true, decide_eq_true_eq]
        exact ⟨hi, h2⟩
      · simp only [risingFrom, Bool.and_eq_true, decide_eq_true_eq]
        exact ⟨h1, ih (by omega) h2⟩

theorem all_putCell {p : Host.Cell → Bool} {i : Nat} {b : Byte} (hp : p (i, b) = true) (l : List Host.Cell) :
    l.all p = true → (putCell i b l).all p = true := by
  induction l with
  | nil => simp [putCell, hp]
  | cons cell rest ih =>
    obtain ⟨j, c⟩ := cell
    simp only [putCell, List.all_cons, Bool.and_eq_true]
    intro ⟨h1, h2⟩
    split
    · simp only [List.all_cons, hp, h1, h2, Bool.and_true]
    · split
      · simp only [List.all_cons, hp, h2, Bool.and_true]
      · simp only [List.all_cons, h1, ih h2, Bool.and_true]

/-! ### One byte -/

@[simp] theorem epoch_write (m : Memory) (i : Nat) (b : Byte) : (m.write i b).epoch = m.epoch := rfl

@[simp] theorem byte?_write_same (m : Memory) (i : Nat) (b : Byte) : (m.write i b).byte? i = some b :=
  findCell_putCell_same i b m.cells

theorem byte?_write_other {i k : Nat} (h : k ≠ i) (m : Memory) (b : Byte) : (m.write i b).byte? k = m.byte? k :=
  findCell_putCell_other h b m.cells

@[simp] theorem read_write_same (m : Memory) (i : Nat) (b : Byte) : (m.write i b).read i = b := by
  simp [Memory.read]

theorem read_write_other {i k : Nat} (h : k ≠ i) (m : Memory) (b : Byte) : (m.write i b).read k = m.read k := by
  simp [Memory.read, byte?_write_other h, Memory.unlisted]

@[simp] theorem byte?_unspecified (epoch i : Nat) : (Memory.unspecified epoch).byte? i = none := rfl

@[simp] theorem read_unspecified (epoch i : Nat) : (Memory.unspecified epoch).read i = Config.freeByte epoch i := rfl

/-! ### A run of bytes -/

@[simp] theorem epoch_writeRun (m : Memory) (i : Nat) (bs : List Byte) : (m.writeRun i bs).epoch = m.epoch := by
  induction bs generalizing m i with
  | nil => rfl
  | cons b rest ih => simp [Memory.writeRun, ih]

theorem byte?_writeRun_outside {i k : Nat} (m : Memory) (bs : List Byte) (h : k < i ∨ i + bs.length ≤ k) :
    (m.writeRun i bs).byte? k = m.byte? k := by
  induction bs generalizing m i with
  | nil => rfl
  | cons b rest ih =>
    simp only [List.length_cons] at h
    rw [Memory.writeRun, ih _ (by omega), byte?_write_other (by omega)]

theorem byte?_writeRun_inside {i j : Nat} (m : Memory) (bs : List Byte) (h : j < bs.length) :
    (m.writeRun i bs).byte? (i + j) = bs[j]? := by
  induction bs generalizing m i j with
  | nil => simp at h
  | cons b rest ih =>
    cases j with
    | zero => rw [Memory.writeRun, byte?_writeRun_outside _ _ (by omega)]; simp
    | succ j =>
      simp only [List.length_cons] at h
      rw [Memory.writeRun, show i + (j + 1) = i + 1 + j by omega, ih _ (by omega)]
      simp

theorem read_writeRun_outside {i k : Nat} (m : Memory) (bs : List Byte) (h : k < i ∨ i + bs.length ≤ k) :
    (m.writeRun i bs).read k = m.read k := by
  simp [Memory.read, byte?_writeRun_outside m bs h, Memory.unlisted]

/-! ### The canonical form -/

@[simp] theorem wf_unspecified (epoch : Nat) : (Memory.unspecified epoch).wf = true := rfl

@[simp] theorem within_unspecified (epoch cap : Nat) : (Memory.unspecified epoch).within cap = true := rfl

theorem wf_write (m : Memory) (i : Nat) (b : Byte) (h : m.wf = true) : (m.write i b).wf = true :=
  risingFrom_putCell (Nat.zero_le i) b m.cells h

theorem within_write {cap i : Nat} (hi : i < cap) (m : Memory) (b : Byte) (h : m.within cap = true) :
    (m.write i b).within cap = true :=
  all_putCell (by simpa using hi) m.cells h

theorem wf_writeRun (m : Memory) (i : Nat) (bs : List Byte) (h : m.wf = true) : (m.writeRun i bs).wf = true := by
  induction bs generalizing m i with
  | nil => exact h
  | cons b rest ih => exact ih _ _ (wf_write m i b h)

theorem within_writeRun {cap i : Nat} (m : Memory) (bs : List Byte) (hi : i + bs.length ≤ cap)
    (h : m.within cap = true) : (m.writeRun i bs).within cap = true := by
  induction bs generalizing m i with
  | nil => exact h
  | cons b rest ih =>
    simp only [List.length_cons] at hi
    exact ih _ (by omega) (within_write (by omega) m b h)

end Sys2Proof.Laws
end

