-- ==== Sys2Proof/Laws/State.lean ====
section
/-! SUPPORT. One lemma per field per named update of State, so that no proof unfolds an update. -/

namespace Sys2Proof.Laws

open Sys2Proof.Machine

/-! ### raised -/

@[simp] theorem raised_cfg (s : State) (e : ErrCode) (p : Word) : (s.raised e p).cfg = s.cfg := rfl
@[simp] theorem raised_phase (s : State) (e : ErrCode) (p : Word) : (s.raised e p).phase = .error := rfl
@[simp] theorem raised_errCode (s : State) (e : ErrCode) (p : Word) : (s.raised e p).errCode = e := rfl
@[simp] theorem raised_errPos (s : State) (e : ErrCode) (p : Word) : (s.raised e p).errPos = p := rfl
@[simp] theorem raised_srcLen (s : State) (e : ErrCode) (p : Word) : (s.raised e p).srcLen = s.srcLen := rfl
@[simp] theorem raised_dstLen (s : State) (e : ErrCode) (p : Word) : (s.raised e p).dstLen = 0#32 := rfl
@[simp] theorem raised_padCount (s : State) (e : ErrCode) (p : Word) : (s.raised e p).padCount = s.padCount := rfl
@[simp] theorem raised_lfCount (s : State) (e : ErrCode) (p : Word) : (s.raised e p).lfCount = s.lfCount := rfl
@[simp] theorem raised_contentLen (s : State) (e : ErrCode) (p : Word) : (s.raised e p).contentLen = s.contentLen := rfl
@[simp] theorem raised_fullQuanta (s : State) (e : ErrCode) (p : Word) : (s.raised e p).fullQuanta = s.fullQuanta := rfl
@[simp] theorem raised_trailingLen (s : State) (e : ErrCode) (p : Word) : (s.raised e p).trailingLen = s.trailingLen := rfl
@[simp] theorem raised_srcCursor (s : State) (e : ErrCode) (p : Word) : (s.raised e p).srcCursor = s.srcCursor := rfl
@[simp] theorem raised_dstCursor (s : State) (e : ErrCode) (p : Word) : (s.raised e p).dstCursor = s.dstCursor := rfl
@[simp] theorem raised_scanIdx (s : State) (e : ErrCode) (p : Word) : (s.raised e p).scanIdx = s.scanIdx := rfl
@[simp] theorem raised_v (s : State) (e : ErrCode) (p : Word) : (s.raised e p).v = s.v := rfl
@[simp] theorem raised_src (s : State) (e : ErrCode) (p : Word) : (s.raised e p).src = s.src := rfl
@[simp] theorem raised_dst (s : State) (e : ErrCode) (p : Word) : (s.raised e p).dst = Memory.unspecified s.draws := rfl
@[simp] theorem raised_lane (s : State) (e : ErrCode) (p : Word) : (s.raised e p).lane = s.lane := rfl
@[simp] theorem raised_size (s : State) (e : ErrCode) (p : Word) : (s.raised e p).size = s.size := rfl
@[simp] theorem raised_inputs (s : State) (e : ErrCode) (p : Word) : (s.raised e p).inputs = s.inputs := rfl
@[simp] theorem raised_busData (s : State) (e : ErrCode) (p : Word) : (s.raised e p).busData = s.busData := rfl
@[simp] theorem raised_draws (s : State) (e : ErrCode) (p : Word) : (s.raised e p).draws = s.draws + 1 := rfl

/-! ### zeroed -/

@[simp] theorem zeroed_cfg (s : State) : (s.zeroed).cfg = s.cfg := rfl
@[simp] theorem zeroed_phase (s : State) : (s.zeroed).phase = s.phase := rfl
@[simp] theorem zeroed_errCode (s : State) : (s.zeroed).errCode = .none := rfl
@[simp] theorem zeroed_errPos (s : State) : (s.zeroed).errPos = 0#32 := rfl
@[simp] theorem zeroed_srcLen (s : State) : (s.zeroed).srcLen = s.srcLen := rfl
@[simp] theorem zeroed_dstLen (s : State) : (s.zeroed).dstLen = 0#32 := rfl
@[simp] theorem zeroed_padCount (s : State) : (s.zeroed).padCount = 0#32 := rfl
@[simp] theorem zeroed_lfCount (s : State) : (s.zeroed).lfCount = 0#32 := rfl
@[simp] theorem zeroed_contentLen (s : State) : (s.zeroed).contentLen = 0#32 := rfl
@[simp] theorem zeroed_fullQuanta (s : State) : (s.zeroed).fullQuanta = 0#32 := rfl
@[simp] theorem zeroed_trailingLen (s : State) : (s.zeroed).trailingLen = 0#3 := rfl
@[simp] theorem zeroed_srcCursor (s : State) : (s.zeroed).srcCursor = 0#32 := rfl
@[simp] theorem zeroed_dstCursor (s : State) : (s.zeroed).dstCursor = 0#32 := rfl
@[simp] theorem zeroed_scanIdx (s : State) : (s.zeroed).scanIdx = s.scanIdx := rfl
@[simp] theorem zeroed_v (s : State) : (s.zeroed).v = s.v := rfl
@[simp] theorem zeroed_src (s : State) : (s.zeroed).src = s.src := rfl
@[simp] theorem zeroed_dst (s : State) : (s.zeroed).dst = s.dst := rfl
@[simp] theorem zeroed_lane (s : State) : (s.zeroed).lane = s.lane := rfl
@[simp] theorem zeroed_size (s : State) : (s.zeroed).size = s.size := rfl
@[simp] theorem zeroed_inputs (s : State) : (s.zeroed).inputs = s.inputs := rfl
@[simp] theorem zeroed_busData (s : State) : (s.zeroed).busData = s.busData := rfl
@[simp] theorem zeroed_draws (s : State) : (s.zeroed).draws = s.draws := rfl

/-! ### started -/

@[simp] theorem started_cfg (s : State) : (s.started).cfg = s.cfg := rfl
@[simp] theorem started_phase (s : State) : (s.started).phase = .scan := rfl
@[simp] theorem started_errCode (s : State) : (s.started).errCode = .none := rfl
@[simp] theorem started_errPos (s : State) : (s.started).errPos = 0#32 := rfl
@[simp] theorem started_srcLen (s : State) : (s.started).srcLen = s.srcLen := rfl
@[simp] theorem started_dstLen (s : State) : (s.started).dstLen = 0#32 := rfl
@[simp] theorem started_padCount (s : State) : (s.started).padCount = 0#32 := rfl
@[simp] theorem started_lfCount (s : State) : (s.started).lfCount = 0#32 := rfl
@[simp] theorem started_contentLen (s : State) : (s.started).contentLen = 0#32 := rfl
@[simp] theorem started_fullQuanta (s : State) : (s.started).fullQuanta = 0#32 := rfl
@[simp] theorem started_trailingLen (s : State) : (s.started).trailingLen = 0#3 := rfl
@[simp] theorem started_srcCursor (s : State) : (s.started).srcCursor = 0#32 := rfl
@[simp] theorem started_dstCursor (s : State) : (s.started).dstCursor = 0#32 := rfl
@[simp] theorem started_scanIdx (s : State) : (s.started).scanIdx = s.srcLen := rfl
@[simp] theorem started_v (s : State) : (s.started).v = s.v := rfl
@[simp] theorem started_src (s : State) : (s.started).src = s.src := rfl
@[simp] theorem started_dst (s : State) : (s.started).dst = s.dst := rfl
@[simp] theorem started_lane (s : State) : (s.started).lane = s.lane := rfl
@[simp] theorem started_size (s : State) : (s.started).size = s.size := rfl
@[simp] theorem started_inputs (s : State) : (s.started).inputs = s.inputs := rfl
@[simp] theorem started_busData (s : State) : (s.started).busData = s.busData := rfl
@[simp] theorem started_draws (s : State) : (s.started).draws = s.draws := rfl

/-! ### cleared -/

@[simp] theorem cleared_cfg (s : State) : (s.cleared).cfg = s.cfg := rfl
@[simp] theorem cleared_phase (s : State) : (s.cleared).phase = .idle := rfl
@[simp] theorem cleared_errCode (s : State) : (s.cleared).errCode = .none := rfl
@[simp] theorem cleared_errPos (s : State) : (s.cleared).errPos = 0#32 := rfl
@[simp] theorem cleared_srcLen (s : State) : (s.cleared).srcLen = s.srcLen := rfl
@[simp] theorem cleared_dstLen (s : State) : (s.cleared).dstLen = 0#32 := rfl
@[simp] theorem cleared_padCount (s : State) : (s.cleared).padCount = 0#32 := rfl
@[simp] theorem cleared_lfCount (s : State) : (s.cleared).lfCount = 0#32 := rfl
@[simp] theorem cleared_contentLen (s : State) : (s.cleared).contentLen = 0#32 := rfl
@[simp] theorem cleared_fullQuanta (s : State) : (s.cleared).fullQuanta = 0#32 := rfl
@[simp] theorem cleared_trailingLen (s : State) : (s.cleared).trailingLen = 0#3 := rfl
@[simp] theorem cleared_srcCursor (s : State) : (s.cleared).srcCursor = 0#32 := rfl
@[simp] theorem cleared_dstCursor (s : State) : (s.cleared).dstCursor = 0#32 := rfl
@[simp] theorem cleared_scanIdx (s : State) : (s.cleared).scanIdx = s.scanIdx := rfl
@[simp] theorem cleared_v (s : State) : (s.cleared).v = s.v := rfl
@[simp] theorem cleared_src (s : State) : (s.cleared).src = s.src := rfl
@[simp] theorem cleared_dst (s : State) : (s.cleared).dst = s.dst := rfl
@[simp] theorem cleared_lane (s : State) : (s.cleared).lane = s.lane := rfl
@[simp] theorem cleared_size (s : State) : (s.cleared).size = s.size := rfl
@[simp] theorem cleared_inputs (s : State) : (s.cleared).inputs = s.inputs := rfl
@[simp] theorem cleared_busData (s : State) : (s.cleared).busData = s.busData := rfl
@[simp] theorem cleared_draws (s : State) : (s.cleared).draws = s.draws := rfl

/-! ### resetApplied -/

@[simp] theorem resetApplied_cfg (s : State) : (s.resetApplied).cfg = s.cfg := rfl
@[simp] theorem resetApplied_phase (s : State) : (s.resetApplied).phase = .idle := rfl
@[simp] theorem resetApplied_errCode (s : State) : (s.resetApplied).errCode = .none := rfl
@[simp] theorem resetApplied_errPos (s : State) : (s.resetApplied).errPos = 0#32 := rfl
@[simp] theorem resetApplied_srcLen (s : State) : (s.resetApplied).srcLen = 0#32 := rfl
@[simp] theorem resetApplied_dstLen (s : State) : (s.resetApplied).dstLen = 0#32 := rfl
@[simp] theorem resetApplied_padCount (s : State) : (s.resetApplied).padCount = 0#32 := rfl
@[simp] theorem resetApplied_lfCount (s : State) : (s.resetApplied).lfCount = 0#32 := rfl
@[simp] theorem resetApplied_contentLen (s : State) : (s.resetApplied).contentLen = 0#32 := rfl
@[simp] theorem resetApplied_fullQuanta (s : State) : (s.resetApplied).fullQuanta = 0#32 := rfl
@[simp] theorem resetApplied_trailingLen (s : State) : (s.resetApplied).trailingLen = 0#3 := rfl
@[simp] theorem resetApplied_srcCursor (s : State) : (s.resetApplied).srcCursor = 0#32 := rfl
@[simp] theorem resetApplied_dstCursor (s : State) : (s.resetApplied).dstCursor = 0#32 := rfl
@[simp] theorem resetApplied_scanIdx (s : State) : (s.resetApplied).scanIdx = Config.freeWord s.draws := rfl
@[simp] theorem resetApplied_v (s : State) : (s.resetApplied).v = Config.freeLanes s.draws := rfl
@[simp] theorem resetApplied_src (s : State) : (s.resetApplied).src = Memory.unspecified s.draws := rfl
@[simp] theorem resetApplied_dst (s : State) : (s.resetApplied).dst = Memory.unspecified (s.draws + 1) := rfl
@[simp] theorem resetApplied_lane (s : State) : (s.resetApplied).lane = 0#3 := rfl
@[simp] theorem resetApplied_size (s : State) : (s.resetApplied).size = 0 := rfl
@[simp] theorem resetApplied_inputs (s : State) : (s.resetApplied).inputs = s.inputs := rfl
@[simp] theorem resetApplied_busData (s : State) : (s.resetApplied).busData = s.busData := rfl
@[simp] theorem resetApplied_draws (s : State) : (s.resetApplied).draws = s.draws + 2 := rfl

/-! ### stepEnded -/

@[simp] theorem stepEnded_cfg (s : State) : (s.stepEnded).cfg = s.cfg := rfl
@[simp] theorem stepEnded_phase (s : State) : (s.stepEnded).phase = s.phase := rfl
@[simp] theorem stepEnded_errCode (s : State) : (s.stepEnded).errCode = s.errCode := rfl
@[simp] theorem stepEnded_errPos (s : State) : (s.stepEnded).errPos = s.errPos := rfl
@[simp] theorem stepEnded_srcLen (s : State) : (s.stepEnded).srcLen = s.srcLen := rfl
@[simp] theorem stepEnded_dstLen (s : State) : (s.stepEnded).dstLen = s.dstLen := rfl
@[simp] theorem stepEnded_padCount (s : State) : (s.stepEnded).padCount = s.padCount := rfl
@[simp] theorem stepEnded_lfCount (s : State) : (s.stepEnded).lfCount = s.lfCount := rfl
@[simp] theorem stepEnded_contentLen (s : State) : (s.stepEnded).contentLen = s.contentLen := rfl
@[simp] theorem stepEnded_fullQuanta (s : State) : (s.stepEnded).fullQuanta = s.fullQuanta := rfl
@[simp] theorem stepEnded_trailingLen (s : State) : (s.stepEnded).trailingLen = s.trailingLen := rfl
@[simp] theorem stepEnded_srcCursor (s : State) : (s.stepEnded).srcCursor = s.srcCursor := rfl
@[simp] theorem stepEnded_dstCursor (s : State) : (s.stepEnded).dstCursor = s.dstCursor := rfl
@[simp] theorem stepEnded_scanIdx (s : State) : (s.stepEnded).scanIdx = Config.freeWord s.draws := rfl
@[simp] theorem stepEnded_v (s : State) : (s.stepEnded).v = Config.freeLanes s.draws := rfl
@[simp] theorem stepEnded_src (s : State) : (s.stepEnded).src = s.src := rfl
@[simp] theorem stepEnded_dst (s : State) : (s.stepEnded).dst = s.dst := rfl
@[simp] theorem stepEnded_lane (s : State) : (s.stepEnded).lane = 0#3 := rfl
@[simp] theorem stepEnded_size (s : State) : (s.stepEnded).size = 0 := rfl
@[simp] theorem stepEnded_inputs (s : State) : (s.stepEnded).inputs = s.inputs := rfl
@[simp] theorem stepEnded_busData (s : State) : (s.stepEnded).busData = s.busData := rfl
@[simp] theorem stepEnded_draws (s : State) : (s.stepEnded).draws = s.draws + 1 := rfl

/-! ### padScanned -/

@[simp] theorem padScanned_cfg (s : State) : (s.padScanned).cfg = s.cfg := rfl
@[simp] theorem padScanned_phase (s : State) : (s.padScanned).phase = s.phase := rfl
@[simp] theorem padScanned_errCode (s : State) : (s.padScanned).errCode = s.errCode := rfl
@[simp] theorem padScanned_errPos (s : State) : (s.padScanned).errPos = s.errPos := rfl
@[simp] theorem padScanned_srcLen (s : State) : (s.padScanned).srcLen = s.srcLen := rfl
@[simp] theorem padScanned_dstLen (s : State) : (s.padScanned).dstLen = s.dstLen := rfl
@[simp] theorem padScanned_padCount (s : State) : (s.padScanned).padCount = s.padCount + 1#32 := rfl
@[simp] theorem padScanned_lfCount (s : State) : (s.padScanned).lfCount = s.lfCount := rfl
@[simp] theorem padScanned_contentLen (s : State) : (s.padScanned).contentLen = s.contentLen := rfl
@[simp] theorem padScanned_fullQuanta (s : State) : (s.padScanned).fullQuanta = s.fullQuanta := rfl
@[simp] theorem padScanned_trailingLen (s : State) : (s.padScanned).trailingLen = s.trailingLen := rfl
@[simp] theorem padScanned_srcCursor (s : State) : (s.padScanned).srcCursor = s.srcCursor := rfl
@[simp] theorem padScanned_dstCursor (s : State) : (s.padScanned).dstCursor = s.dstCursor := rfl
@[simp] theorem padScanned_scanIdx (s : State) : (s.padScanned).scanIdx = s.scanIdx - 1#32 := rfl
@[simp] theorem padScanned_v (s : State) : (s.padScanned).v = s.v := rfl
@[simp] theorem padScanned_src (s : State) : (s.padScanned).src = s.src := rfl
@[simp] theorem padScanned_dst (s : State) : (s.padScanned).dst = s.dst := rfl
@[simp] theorem padScanned_lane (s : State) : (s.padScanned).lane = s.lane := rfl
@[simp] theorem padScanned_size (s : State) : (s.padScanned).size = s.size := rfl
@[simp] theorem padScanned_inputs (s : State) : (s.padScanned).inputs = s.inputs := rfl
@[simp] theorem padScanned_busData (s : State) : (s.padScanned).busData = s.busData := rfl
@[simp] theorem padScanned_draws (s : State) : (s.padScanned).draws = s.draws := rfl

/-! ### lfScanned -/

@[simp] theorem lfScanned_cfg (s : State) : (s.lfScanned).cfg = s.cfg := rfl
@[simp] theorem lfScanned_phase (s : State) : (s.lfScanned).phase = s.phase := rfl
@[simp] theorem lfScanned_errCode (s : State) : (s.lfScanned).errCode = s.errCode := rfl
@[simp] theorem lfScanned_errPos (s : State) : (s.lfScanned).errPos = s.errPos := rfl
@[simp] theorem lfScanned_srcLen (s : State) : (s.lfScanned).srcLen = s.srcLen := rfl
@[simp] theorem lfScanned_dstLen (s : State) : (s.lfScanned).dstLen = s.dstLen := rfl
@[simp] theorem lfScanned_padCount (s : State) : (s.lfScanned).padCount = s.padCount := rfl
@[simp] theorem lfScanned_lfCount (s : State) : (s.lfScanned).lfCount = s.lfCount + 1#32 := rfl
@[simp] theorem lfScanned_contentLen (s : State) : (s.lfScanned).contentLen = s.contentLen := rfl
@[simp] theorem lfScanned_fullQuanta (s : State) : (s.lfScanned).fullQuanta = s.fullQuanta := rfl
@[simp] theorem lfScanned_trailingLen (s : State) : (s.lfScanned).trailingLen = s.trailingLen := rfl
@[simp] theorem lfScanned_srcCursor (s : State) : (s.lfScanned).srcCursor = s.srcCursor := rfl
@[simp] theorem lfScanned_dstCursor (s : State) : (s.lfScanned).dstCursor = s.dstCursor := rfl
@[simp] theorem lfScanned_scanIdx (s : State) : (s.lfScanned).scanIdx = s.scanIdx - 1#32 := rfl
@[simp] theorem lfScanned_v (s : State) : (s.lfScanned).v = s.v := rfl
@[simp] theorem lfScanned_src (s : State) : (s.lfScanned).src = s.src := rfl
@[simp] theorem lfScanned_dst (s : State) : (s.lfScanned).dst = s.dst := rfl
@[simp] theorem lfScanned_lane (s : State) : (s.lfScanned).lane = s.lane := rfl
@[simp] theorem lfScanned_size (s : State) : (s.lfScanned).size = s.size := rfl
@[simp] theorem lfScanned_inputs (s : State) : (s.lfScanned).inputs = s.inputs := rfl
@[simp] theorem lfScanned_busData (s : State) : (s.lfScanned).busData = s.busData := rfl
@[simp] theorem lfScanned_draws (s : State) : (s.lfScanned).draws = s.draws := rfl

/-! ### scanEnded -/

@[simp] theorem scanEnded_cfg (s : State) : (s.scanEnded).cfg = s.cfg := rfl
@[simp] theorem scanEnded_phase (s : State) : (s.scanEnded).phase = .geom := rfl
@[simp] theorem scanEnded_errCode (s : State) : (s.scanEnded).errCode = s.errCode := rfl
@[simp] theorem scanEnded_errPos (s : State) : (s.scanEnded).errPos = s.errPos := rfl
@[simp] theorem scanEnded_srcLen (s : State) : (s.scanEnded).srcLen = s.srcLen := rfl
@[simp] theorem scanEnded_dstLen (s : State) : (s.scanEnded).dstLen = s.dstLen := rfl
@[simp] theorem scanEnded_padCount (s : State) : (s.scanEnded).padCount = s.padCount := rfl
@[simp] theorem scanEnded_lfCount (s : State) : (s.scanEnded).lfCount = s.lfCount := rfl
@[simp] theorem scanEnded_contentLen (s : State) : (s.scanEnded).contentLen = s.contentLen := rfl
@[simp] theorem scanEnded_fullQuanta (s : State) : (s.scanEnded).fullQuanta = s.fullQuanta := rfl
@[simp] theorem scanEnded_trailingLen (s : State) : (s.scanEnded).trailingLen = s.trailingLen := rfl
@[simp] theorem scanEnded_srcCursor (s : State) : (s.scanEnded).srcCursor = s.srcCursor := rfl
@[simp] theorem scanEnded_dstCursor (s : State) : (s.scanEnded).dstCursor = s.dstCursor := rfl
@[simp] theorem scanEnded_scanIdx (s : State) : (s.scanEnded).scanIdx = s.scanIdx := rfl
@[simp] theorem scanEnded_v (s : State) : (s.scanEnded).v = s.v := rfl
@[simp] theorem scanEnded_src (s : State) : (s.scanEnded).src = s.src := rfl
@[simp] theorem scanEnded_dst (s : State) : (s.scanEnded).dst = s.dst := rfl
@[simp] theorem scanEnded_lane (s : State) : (s.scanEnded).lane = s.lane := rfl
@[simp] theorem scanEnded_size (s : State) : (s.scanEnded).size = s.size := rfl
@[simp] theorem scanEnded_inputs (s : State) : (s.scanEnded).inputs = s.inputs := rfl
@[simp] theorem scanEnded_busData (s : State) : (s.scanEnded).busData = s.busData := rfl
@[simp] theorem scanEnded_draws (s : State) : (s.scanEnded).draws = s.draws := rfl

/-! ### laneLoaded -/

@[simp] theorem laneLoaded_cfg (s : State) (x : Sym) : (s.laneLoaded x).cfg = s.cfg := rfl
@[simp] theorem laneLoaded_phase (s : State) (x : Sym) : (s.laneLoaded x).phase = s.phase := rfl
@[simp] theorem laneLoaded_errCode (s : State) (x : Sym) : (s.laneLoaded x).errCode = s.errCode := rfl
@[simp] theorem laneLoaded_errPos (s : State) (x : Sym) : (s.laneLoaded x).errPos = s.errPos := rfl
@[simp] theorem laneLoaded_srcLen (s : State) (x : Sym) : (s.laneLoaded x).srcLen = s.srcLen := rfl
@[simp] theorem laneLoaded_dstLen (s : State) (x : Sym) : (s.laneLoaded x).dstLen = s.dstLen := rfl
@[simp] theorem laneLoaded_padCount (s : State) (x : Sym) : (s.laneLoaded x).padCount = s.padCount := rfl
@[simp] theorem laneLoaded_lfCount (s : State) (x : Sym) : (s.laneLoaded x).lfCount = s.lfCount := rfl
@[simp] theorem laneLoaded_contentLen (s : State) (x : Sym) : (s.laneLoaded x).contentLen = s.contentLen := rfl
@[simp] theorem laneLoaded_fullQuanta (s : State) (x : Sym) : (s.laneLoaded x).fullQuanta = s.fullQuanta := rfl
@[simp] theorem laneLoaded_trailingLen (s : State) (x : Sym) : (s.laneLoaded x).trailingLen = s.trailingLen := rfl
@[simp] theorem laneLoaded_srcCursor (s : State) (x : Sym) : (s.laneLoaded x).srcCursor = s.srcCursor := rfl
@[simp] theorem laneLoaded_dstCursor (s : State) (x : Sym) : (s.laneLoaded x).dstCursor = s.dstCursor := rfl
@[simp] theorem laneLoaded_scanIdx (s : State) (x : Sym) : (s.laneLoaded x).scanIdx = s.scanIdx := rfl
@[simp] theorem laneLoaded_v (s : State) (x : Sym) : (s.laneLoaded x).v = s.v.set s.lane.toNat x s.lane.isLt := rfl
@[simp] theorem laneLoaded_src (s : State) (x : Sym) : (s.laneLoaded x).src = s.src := rfl
@[simp] theorem laneLoaded_dst (s : State) (x : Sym) : (s.laneLoaded x).dst = s.dst := rfl
@[simp] theorem laneLoaded_lane (s : State) (x : Sym) : (s.laneLoaded x).lane = s.lane + 1#3 := rfl
@[simp] theorem laneLoaded_size (s : State) (x : Sym) : (s.laneLoaded x).size = s.size := rfl
@[simp] theorem laneLoaded_inputs (s : State) (x : Sym) : (s.laneLoaded x).inputs = s.inputs := rfl
@[simp] theorem laneLoaded_busData (s : State) (x : Sym) : (s.laneLoaded x).busData = s.busData := rfl
@[simp] theorem laneLoaded_draws (s : State) (x : Sym) : (s.laneLoaded x).draws = s.draws := rfl

/-! ### advanced -/

@[simp] theorem advanced_cfg (s : State) (n : Nat) : (s.advanced n).cfg = s.cfg := rfl
@[simp] theorem advanced_phase (s : State) (n : Nat) : (s.advanced n).phase = s.phase := rfl
@[simp] theorem advanced_errCode (s : State) (n : Nat) : (s.advanced n).errCode = s.errCode := rfl
@[simp] theorem advanced_errPos (s : State) (n : Nat) : (s.advanced n).errPos = s.errPos := rfl
@[simp] theorem advanced_srcLen (s : State) (n : Nat) : (s.advanced n).srcLen = s.srcLen := rfl
@[simp] theorem advanced_dstLen (s : State) (n : Nat) : (s.advanced n).dstLen = s.dstLen := rfl
@[simp] theorem advanced_padCount (s : State) (n : Nat) : (s.advanced n).padCount = s.padCount := rfl
@[simp] theorem advanced_lfCount (s : State) (n : Nat) : (s.advanced n).lfCount = s.lfCount := rfl
@[simp] theorem advanced_contentLen (s : State) (n : Nat) : (s.advanced n).contentLen = s.contentLen := rfl
@[simp] theorem advanced_fullQuanta (s : State) (n : Nat) : (s.advanced n).fullQuanta = s.fullQuanta := rfl
@[simp] theorem advanced_trailingLen (s : State) (n : Nat) : (s.advanced n).trailingLen = s.trailingLen := rfl
@[simp] theorem advanced_srcCursor (s : State) (n : Nat) : (s.advanced n).srcCursor = s.srcCursor + BitVec.ofNat 32 n := rfl
@[simp] theorem advanced_dstCursor (s : State) (n : Nat) : (s.advanced n).dstCursor = s.dstCursor + BitVec.ofNat 32 (bytesOut n) := rfl
@[simp] theorem advanced_scanIdx (s : State) (n : Nat) : (s.advanced n).scanIdx = s.scanIdx := rfl
@[simp] theorem advanced_v (s : State) (n : Nat) : (s.advanced n).v = s.v := rfl
@[simp] theorem advanced_src (s : State) (n : Nat) : (s.advanced n).src = s.src := rfl
@[simp] theorem advanced_dst (s : State) (n : Nat) : (s.advanced n).dst = s.dst := rfl
@[simp] theorem advanced_lane (s : State) (n : Nat) : (s.advanced n).lane = s.lane := rfl
@[simp] theorem advanced_size (s : State) (n : Nat) : (s.advanced n).size = s.size := rfl
@[simp] theorem advanced_inputs (s : State) (n : Nat) : (s.advanced n).inputs = s.inputs := rfl
@[simp] theorem advanced_busData (s : State) (n : Nat) : (s.advanced n).busData = s.busData := rfl
@[simp] theorem advanced_draws (s : State) (n : Nat) : (s.advanced n).draws = s.draws := rfl

/-! ### Flags of the updates -/

@[simp] theorem busy_raised (s : State) (e : ErrCode) (p : Word) : (s.raised e p).busy = false := rfl
@[simp] theorem busy_started (s : State) : s.started.busy = true := rfl
@[simp] theorem busy_cleared (s : State) : s.cleared.busy = false := rfl
@[simp] theorem busy_resetApplied (s : State) : s.resetApplied.busy = false := rfl

/-- BUSY by PHASE (10 R15). -/
theorem busy_iff (s : State) : s.busy = true ↔ s.phase = .scan ∨ s.phase = .geom ∨ s.phase = .unpack := by
  unfold State.busy
  cases s.phase <;> simp

/-- At rest by PHASE (10 R15). -/
theorem not_busy_iff (s : State) : s.busy = false ↔ s.phase = .idle ∨ s.phase = .done ∨ s.phase = .error := by
  unfold State.busy
  cases s.phase <;> simp

end Sys2Proof.Laws
end

