-- ==== Sys2Proof/Laws/Ops.lean ====
section
/-! SUPPORT. What each shared operation can do, said once. -/

namespace Sys2Proof.Laws

open Sys2Proof.Machine

/-! ### The bounds of a step -/

theorem ifSelected_next {sel : Bool} {r : Result} {t : State} :
    ifSelected sel r = .next t ↔ sel = true ∧ r = .next t := by
  cases sel <;> simp [ifSelected]

/-- An action and what follows it: either the action raised and nothing follows, or what follows ran on its state. -/
theorem andThen_next {r : Result} {f : State → Result} {t : State} :
    andThen r f = .next t ↔
      (r = .next t ∧ t.phase = .error) ∨ ∃ u, r = .next u ∧ u.phase ≠ .error ∧ f u = .next t := by
  cases r with
  | next s =>
    by_cases h : s.phase = .error
    · simp only [andThen, h, if_true, Host.Outcome.next.injEq]
      constructor
      · rintro rfl; exact .inl ⟨rfl, h⟩
      · rintro (⟨rfl, _⟩ | ⟨u, rfl, hu, _⟩)
        · rfl
        · exact absurd h hu
    · simp only [andThen, h, if_false, Host.Outcome.next.injEq]
      constructor
      · exact fun hf => .inr ⟨s, rfl, h, hf⟩
      · rintro (⟨rfl, ht⟩ | ⟨u, rfl, _, hf⟩)
        · exact absurd ht h
        · exact hf
  | fault x => simp [andThen]
  | refused x => simp [andThen]

theorem andThen_of_error {s : State} (h : s.phase = .error) (f : State → Result) : andThen (.next s) f = .next s := by
  simp [andThen, h]

theorem andThen_of_next {s : State} (h : s.phase ≠ .error) (f : State → Result) : andThen (.next s) f = f s := by
  simp [andThen, h]

theorem endStep_next {r : Result} {t : State} : endStep r = .next t ↔ ∃ u, r = .next u ∧ t = u.stepEnded := by
  cases r <;> simp [endStep, eq_comm]

/-! ### Symbols -/

theorem contentSymbol_value {x : Symbol} {v : Sym} (h : x.value? = some v) (s : State) :
    contentSymbol x s = s.laneLoaded v := by
  simp [contentSymbol, h]

theorem contentSymbol_none {x : Symbol} (h : x.value? = none) (s : State) :
    contentSymbol x s = s.raised .invalidCharacter (s.srcCursor + s.lane.setWidth 32) := by
  simp [contentSymbol, h]

/-- A symbol always has a next state. -/
theorem presentSymbol_next (x : Symbol) (s : State) : ∃ t, presentSymbol x s = .next t := by
  unfold presentSymbol
  cases s.phase <;> exact ⟨_, rfl⟩

theorem presentSymbol_unpack {s : State} (h : s.phase = .unpack) (x : Symbol) :
    presentSymbol x s = .next (contentSymbol x s) := by
  simp [presentSymbol, h]

theorem presentSymbol_scan {s : State} (h : s.phase = .scan) (x : Symbol) :
    presentSymbol x s = .next (scanSymbol x s) := by
  simp [presentSymbol, h]

/-! ### SRC and DST -/

theorem srcByte_ok {s : State} {i : Nat} (h : i < s.srcLen.toNat) (h' : i < s.cfg.srcCap.toNat) :
    s.srcByte i = .ok (s.src.read i) := by
  simp [State.srcByte, h, h']

theorem srcByte_eq_ok {s : State} {i : Nat} {c : Byte} :
    s.srcByte i = .ok c ↔ (i < s.srcLen.toNat ∧ i < s.cfg.srcCap.toNat) ∧ c = s.src.read i := by
  unfold State.srcByte
  split <;> simp_all [eq_comm]

/-- A store of bytes that answers a next state changes DST in the run of bytes and nothing else. -/
theorem storeBytes_next {bs : List Byte} {s t : State} :
    storeBytes bs s = .next t ↔
      s.dstCursor.toNat + bs.length ≤ s.cfg.dstCap.toNat ∧
        t = { s with dst := s.dst.writeRun s.dstCursor.toNat bs } := by
  unfold storeBytes
  split <;> simp_all [eq_comm]

/-- The emitted bytes are as many as `m(n)`. -/
@[simp] theorem length_quantumBytes (n : Nat) (v : Vector Sym 8) : (quantumBytes n v).length = bytesOut n := by
  simp [quantumBytes]

/-! ### Character loop -/

/-- One turn of the character loop on a byte that may be read. -/
theorem loadLanes_succ {k : Nat} {s : State} {c : Byte} (h : s.srcByte (s.srcCursor.toNat + s.lane.toNat) = .ok c) :
    loadLanes (k + 1) s = andThen (presentSymbol (symbolOf c) s) (loadLanes k) := by
  simp [loadLanes, h]

theorem loadLanes_accept {k : Nat} {s : State} {c : Byte} {v : Sym} (hp : s.phase = .unpack)
    (h : s.srcByte (s.srcCursor.toNat + s.lane.toNat) = .ok c) (hv : valueOf c = some v) :
    loadLanes (k + 1) s = loadLanes k (s.laneLoaded v) := by
  rw [loadLanes_succ h, presentSymbol_unpack hp, contentSymbol_value hv, andThen_of_next (by simp [hp])]

theorem loadLanes_raise {k : Nat} {s : State} {c : Byte} (hp : s.phase = .unpack)
    (h : s.srcByte (s.srcCursor.toNat + s.lane.toNat) = .ok c) (hv : valueOf c = none) :
    loadLanes (k + 1) s = .next (s.raised .invalidCharacter (s.srcCursor + s.lane.setWidth 32)) := by
  rw [loadLanes_succ h, presentSymbol_unpack hp, contentSymbol_none hv, andThen_of_error (by simp)]

/-! ### The step -/

@[simp] theorem step_alone {s : State} (h : s.inputs = []) : step s = blockStep s := by
  simp [step, h]

theorem step_pending {s : State} {a : HostAction} {rest : List HostAction} (h : s.inputs = a :: rest) :
    step s = hostStep a { s with inputs := rest } := by
  simp [step, h]

/-- What the block does by itself, by its phase. -/
theorem blockStep_rest {s : State} (h : s.busy = false) : blockStep s = .next s := by
  rcases (not_busy_iff s).mp h with h | h | h <;> simp [blockStep, select, h]

theorem blockStep_scan {s : State} (h : s.phase = .scan) :
    blockStep s =
      if s.scanIdx = 0#32 then .next s.scanEnded
      else
        match s.srcByte (s.scanIdx.toNat - 1) with
        | .error _ => .fault (.srcIndexOutOfRange (s.scanIdx.toNat - 1))
        | .ok c => .next (scanSymbol (symbolOf c) s) := by
  by_cases h0 : s.scanIdx = 0#32
  · simp [blockStep, select, selectScan, h, h0, exec, execPvScanEnd, ifSelected]
  · cases hc : s.srcByte (s.scanIdx.toNat - 1) with
    | error f => simp [blockStep, select, selectScan, h, h0, hc]
    | ok c =>
      cases hx : (symbolOf c).cls <;>
        simp [blockStep, select, selectScan, h, h0, hc, classOf, hx, exec, execPvScanEnd, execPvScanPad, execPvScanLf,
          ifSelected, scanSymbol]

theorem blockStep_geom {s : State} (h : s.phase = .geom) : blockStep s = execStepGeom s := by
  simp [blockStep, select, h, exec]

theorem blockStep_unpack {s : State} (h : s.phase = .unpack) : blockStep s = execStepUnpack s := by
  by_cases hc : s.srcCursor = s.contentLen <;> simp [blockStep, select, h, hc, exec, execStepUnpack, ifSelected]

end Sys2Proof.Laws
end

