-- ==== Sys2Proof/Laws/PerInstr.lean ====
section
/-! SUPPORT. The family RoundTrip: the encoder and the decoder agree on each instruction, one lemma per constructor. -/

namespace Sys2Proof.Laws.RoundTrip

/-- A well-formed instruction that a bit pattern selects is what the decoder reads from the pattern the encoder gives. -/
def Statement (i : Instr) : Prop := i.wellFormed = true → ∀ e ∈ encode i, decode e = .ok i

theorem symUpperA : Statement .symUpperA := fun _ _ h => by cases h; rfl
theorem symUpperB : Statement .symUpperB := fun _ _ h => by cases h; rfl
theorem symUpperC : Statement .symUpperC := fun _ _ h => by cases h; rfl
theorem symUpperD : Statement .symUpperD := fun _ _ h => by cases h; rfl
theorem symUpperE : Statement .symUpperE := fun _ _ h => by cases h; rfl
theorem symUpperF : Statement .symUpperF := fun _ _ h => by cases h; rfl
theorem symUpperG : Statement .symUpperG := fun _ _ h => by cases h; rfl
theorem symUpperH : Statement .symUpperH := fun _ _ h => by cases h; rfl
theorem symUpperI : Statement .symUpperI := fun _ _ h => by cases h; rfl
theorem symUpperJ : Statement .symUpperJ := fun _ _ h => by cases h; rfl
theorem symUpperK : Statement .symUpperK := fun _ _ h => by cases h; rfl
theorem symUpperL : Statement .symUpperL := fun _ _ h => by cases h; rfl
theorem symUpperM : Statement .symUpperM := fun _ _ h => by cases h; rfl
theorem symUpperN : Statement .symUpperN := fun _ _ h => by cases h; rfl
theorem symUpperO : Statement .symUpperO := fun _ _ h => by cases h; rfl
theorem symUpperP : Statement .symUpperP := fun _ _ h => by cases h; rfl
theorem symUpperQ : Statement .symUpperQ := fun _ _ h => by cases h; rfl
theorem symUpperR : Statement .symUpperR := fun _ _ h => by cases h; rfl
theorem symUpperS : Statement .symUpperS := fun _ _ h => by cases h; rfl
theorem symUpperT : Statement .symUpperT := fun _ _ h => by cases h; rfl
theorem symUpperU : Statement .symUpperU := fun _ _ h => by cases h; rfl
theorem symUpperV : Statement .symUpperV := fun _ _ h => by cases h; rfl
theorem symUpperW : Statement .symUpperW := fun _ _ h => by cases h; rfl
theorem symUpperX : Statement .symUpperX := fun _ _ h => by cases h; rfl
theorem symUpperY : Statement .symUpperY := fun _ _ h => by cases h; rfl
theorem symUpperZ : Statement .symUpperZ := fun _ _ h => by cases h; rfl
theorem symLowerA : Statement .symLowerA := fun _ _ h => by cases h; rfl
theorem symLowerB : Statement .symLowerB := fun _ _ h => by cases h; rfl
theorem symLowerC : Statement .symLowerC := fun _ _ h => by cases h; rfl
theorem symLowerD : Statement .symLowerD := fun _ _ h => by cases h; rfl
theorem symLowerE : Statement .symLowerE := fun _ _ h => by cases h; rfl
theorem symLowerF : Statement .symLowerF := fun _ _ h => by cases h; rfl
theorem symLowerG : Statement .symLowerG := fun _ _ h => by cases h; rfl
theorem symLowerH : Statement .symLowerH := fun _ _ h => by cases h; rfl
theorem symLowerI : Statement .symLowerI := fun _ _ h => by cases h; rfl
theorem symLowerJ : Statement .symLowerJ := fun _ _ h => by cases h; rfl
theorem symLowerK : Statement .symLowerK := fun _ _ h => by cases h; rfl
theorem symLowerL : Statement .symLowerL := fun _ _ h => by cases h; rfl
theorem symLowerM : Statement .symLowerM := fun _ _ h => by cases h; rfl
theorem symLowerN : Statement .symLowerN := fun _ _ h => by cases h; rfl
theorem symLowerO : Statement .symLowerO := fun _ _ h => by cases h; rfl
theorem symLowerP : Statement .symLowerP := fun _ _ h => by cases h; rfl
theorem symLowerQ : Statement .symLowerQ := fun _ _ h => by cases h; rfl
theorem symLowerR : Statement .symLowerR := fun _ _ h => by cases h; rfl
theorem symLowerS : Statement .symLowerS := fun _ _ h => by cases h; rfl
theorem symLowerT : Statement .symLowerT := fun _ _ h => by cases h; rfl
theorem symLowerU : Statement .symLowerU := fun _ _ h => by cases h; rfl
theorem symLowerV : Statement .symLowerV := fun _ _ h => by cases h; rfl
theorem symLowerW : Statement .symLowerW := fun _ _ h => by cases h; rfl
theorem symLowerX : Statement .symLowerX := fun _ _ h => by cases h; rfl
theorem symLowerY : Statement .symLowerY := fun _ _ h => by cases h; rfl
theorem symLowerZ : Statement .symLowerZ := fun _ _ h => by cases h; rfl
theorem symDigit2 : Statement .symDigit2 := fun _ _ h => by cases h; rfl
theorem symDigit3 : Statement .symDigit3 := fun _ _ h => by cases h; rfl
theorem symDigit4 : Statement .symDigit4 := fun _ _ h => by cases h; rfl
theorem symDigit5 : Statement .symDigit5 := fun _ _ h => by cases h; rfl
theorem symDigit6 : Statement .symDigit6 := fun _ _ h => by cases h; rfl
theorem symDigit7 : Statement .symDigit7 := fun _ _ h => by cases h; rfl
theorem symPad : Statement .symPad := fun _ _ h => by cases h; rfl
theorem symLf : Statement .symLf := fun _ _ h => by cases h; rfl
/-- No accepted code is well formed under SYM.INVALID, so its code decodes to itself (41 R116). -/
theorem decodeSym8_of_invalid (code : Byte) (h : Machine.classOf code = .invalid) : decodeSym8 code = .symInvalid code := by
  revert h
  revert code
  decide

theorem symInvalid (code : Byte) : Statement (.symInvalid code) := by
  intro h e he
  cases he
  have := decodeSym8_of_invalid code (by simpa [Instr.wellFormed] using h)
  simp [decode, this]

theorem pvTL0 : Statement .pvTL0 := fun _ _ h => by cases h; rfl
theorem pvTL1 : Statement .pvTL1 := fun _ _ h => by cases h; rfl
theorem pvTL2 : Statement .pvTL2 := fun _ _ h => by cases h; rfl
theorem pvTL3 : Statement .pvTL3 := fun _ _ h => by cases h; rfl
theorem pvTL4 : Statement .pvTL4 := fun _ _ h => by cases h; rfl
theorem pvTL5 : Statement .pvTL5 := fun _ _ h => by cases h; rfl
theorem pvTL6 : Statement .pvTL6 := fun _ _ h => by cases h; rfl
theorem pvTL7 : Statement .pvTL7 := fun _ _ h => by cases h; rfl
theorem quUnpack8 : Statement .quUnpack8 := fun _ _ h => by cases h; rfl
theorem quUnpack7 : Statement .quUnpack7 := fun _ _ h => by cases h; rfl
theorem quUnpack5 : Statement .quUnpack5 := fun _ _ h => by cases h; rfl
theorem quUnpack4 : Statement .quUnpack4 := fun _ _ h => by cases h; rfl
theorem quUnpack2 : Statement .quUnpack2 := fun _ _ h => by cases h; rfl
theorem cmdStart : Statement .cmdStart := fun _ _ h => by cases h; rfl
theorem cmdClear : Statement .cmdClear := fun _ _ h => by cases h; rfl
theorem pvScanPad : Statement .pvScanPad := fun _ _ h => by cases h
theorem pvScanLf : Statement .pvScanLf := fun _ _ h => by cases h
theorem pvScanEnd : Statement .pvScanEnd := fun _ _ h => by cases h
theorem pvGeomContent : Statement .pvGeomContent := fun _ _ h => by cases h
theorem pvGeomQuanta : Statement .pvGeomQuanta := fun _ _ h => by cases h
theorem pvGeomTrailing : Statement .pvGeomTrailing := fun _ _ h => by cases h
theorem pvAlloc : Statement .pvAlloc := fun _ _ h => by cases h
theorem stepGeom : Statement .stepGeom := fun _ _ h => by cases h
theorem stepUnpack : Statement .stepUnpack := fun _ _ h => by cases h
theorem stepDone : Statement .stepDone := fun _ _ h => by cases h

end Sys2Proof.Laws.RoundTrip
end

