-- ==== Sys2Proof/Tests/Slice0.lean ====
section
/-! SUPPORT. Tests: words written out from 30 section 2 and 41 section 3, single steps with results from
95_test_vectors.md, and for every statement with hypotheses a state and operands that meet them. -/

namespace Sys2Proof.Tests

open Sys2Proof.Machine Sys2Proof.Safety Sys2Proof.Claims

/-! ### Helpers -/

/-- A projection of the next state, if there is one. -/
def onNext {α : Type} (r : Result) (f : State → α) : Option α :=
  match r with
  | .next s => some (f s)
  | .fault _ => none
  | .refused _ => none

/-- Is the decoder's answer on these bytes this instruction? -/
def reads (f : Format) (bs : List Byte) (i : Instr) : Bool :=
  match decodeBytes f bs with
  | .ok j => j == i
  | .error _ => false

/-- Do consecutive codes from `code` decode to the rows in order? -/
def readsFrom (code : Byte) : List Instr → Bool
  | [] => true
  | i :: rest => reads .sym8 [code] i && readsFrom (code + 1#8) rest

/-- Reset, then the host has written `text` to SRC and its length to SRC_LEN. -/
def loaded (text : List Byte) : State :=
  { State.reset with srcLen := BitVec.ofNat 32 text.length, src := State.reset.src.writeRun 0 text }

/-- The same with another DST_CAP. -/
def withCap (cap : Word) (s : State) : State := { s with cfg := { s.cfg with dstCap := cap } }

/-- `loaded`, in SCAN with `idx` bytes left to look at. -/
def scanning (text : List Byte) (idx : Word) : State := { loaded text with phase := .scan, scanIdx := idx }

/-- In GEOM with a content of `len` characters. -/
def measuring (len : Word) : State := { State.reset with phase := .geom, srcLen := len, scanIdx := len }

/-- `loaded`, in UNPACK at `cur` with a content of `len` characters. -/
def unpacking (text : List Byte) (len cur : Word) : State :=
  { loaded text with phase := .unpack, contentLen := len, srcCursor := cur }

/-- In UNPACK with these symbol values in `V[0..7]`. -/
def lanes (v : Vector Sym 8) : State := { State.reset with phase := .unpack, v := v }

/-- In BUSY or at rest with these host actions pending. -/
def pending (p : Phase) (a : List HostAction) : State := { State.reset with phase := p, inputs := a }

/-- The specified bytes of DST after an unpack operation. -/
def stored (i : Instr) (v : Vector Sym 8) : Option (List Host.Cell) := onNext (exec i (lanes v)) (·.dst.cells)

/-- `NBSWY3DP` (95 S3). -/
def hello : List Byte := [0x4E#8, 0x42#8, 0x53#8, 0x57#8, 0x59#8, 0x33#8, 0x44#8, 0x50#8]

/-- `N1SWY3DP` (95 S5). -/
def badHello : List Byte := [0x4E#8, 0x31#8, 0x53#8, 0x57#8, 0x59#8, 0x33#8, 0x44#8, 0x50#8]

/-- `MY======` (95 2.2). -/
def my : List Byte := [0x4D#8, 0x59#8, 0x3D#8, 0x3D#8, 0x3D#8, 0x3D#8, 0x3D#8, 0x3D#8]

/-! ### Well-formedness -/

/-- SYM.INVALID of `A` and of `=` are no operations (41 R116). -/
theorem test_wellFormed_refuses : (Instr.symInvalid 0x41#8).wellFormed = false ∧
    (Instr.symInvalid 0x3D#8).wellFormed = false := by decide

/-- SYM.INVALID of `1`, of CR and of `A` with bit 7 set are operations (95 2.1). -/
theorem test_wellFormed_accepts : (Instr.symInvalid 0x31#8).wellFormed = true ∧
    (Instr.symInvalid 0x0D#8).wellFormed = true ∧ (Instr.symInvalid 0xC1#8).wellFormed = true := by decide

/-! ### Decoding: the tables of 41 section 3 and 30 R67 -/

theorem test_decode_upper : readsFrom 0x41#8 upperRows = true ∧ upperRows.length = 26 := by decide
theorem test_decode_lower : readsFrom 0x61#8 lowerRows = true ∧ lowerRows.length = 26 := by decide
theorem test_decode_digits : readsFrom 0x32#8 digitRows = true ∧ digitRows.length = 6 := by decide
/-- `N` is 0b01001110, `n` 0b01101110, `3` 0b00110011, `=` 0b00111101, LF 0b00001010. -/
theorem test_decode_bits : reads .sym8 [0b01001110#8] .symUpperN = true ∧ reads .sym8 [0b01101110#8] .symLowerN = true ∧
    reads .sym8 [0b00110011#8] .symDigit3 = true ∧ reads .sym8 [0b00111101#8] .symPad = true ∧
    reads .sym8 [0b00001010#8] .symLf = true := by decide
/-- The INVALID boundaries of 95 2.1. -/
theorem test_decode_invalid : ([0x00#8, 0x09#8, 0x0B#8, 0x0D#8, 0x31#8, 0x38#8, 0x40#8, 0x5B#8, 0x60#8, 0x7B#8] ++
    [0x80#8, 0xC1#8, 0xE1#8, 0xFF#8]).all (fun c => reads .sym8 [c] (.symInvalid c)) = true := by decide
theorem test_decode_trailing : (reads .tlen3 [0#8] .pvTL0 && reads .tlen3 [1#8] .pvTL1 && reads .tlen3 [2#8] .pvTL2 &&
    reads .tlen3 [3#8] .pvTL3 && reads .tlen3 [4#8] .pvTL4 && reads .tlen3 [5#8] .pvTL5 && reads .tlen3 [6#8] .pvTL6 &&
    reads .tlen3 [7#8] .pvTL7) = true := by decide
theorem test_decode_quantum : (reads .qlen4 [8#8] .quUnpack8 && reads .qlen4 [7#8] .quUnpack7 &&
    reads .qlen4 [5#8] .quUnpack5 && reads .qlen4 [4#8] .quUnpack4 && reads .qlen4 [2#8] .quUnpack2) = true := by decide
theorem test_decode_command : reads .ctrl32 [1#8, 0#8, 0#8, 0#8] .cmdStart = true ∧
    reads .ctrl32 [2#8, 0#8, 0#8, 0#8] .cmdClear = true := by decide
/-- 42 R140, 30 R71, 95 2.5; a stray bit; a byte too many. -/
theorem test_decode_rejects :
    decodeBytes .qlen4 [6#8] = .error (.noUnpackOperation 6#4) ∧
    decodeBytes .ctrl32 [3#8, 0#8, 0#8, 0#8] = .error (.reservedCommand 3#32) ∧
    decodeBytes .ctrl32 [1#8, 0#8, 0#8, 0x80#8] = .error (.reservedCommand 0x80000001#32) ∧
    decodeBytes .tlen3 [9#8] = .error (.strayBits 9#8) ∧
    decodeBytes .sym8 [0x41#8, 0x41#8] = .error (.wrongByteCount 2) := ⟨rfl, rfl, rfl, rfl, rfl⟩
/-- The words the opcode table prints. -/
theorem test_decodeTableWord : decodeTableWord 8 0x41 = some .symUpperA ∧ decodeTableWord 8 5 = some .pvTL5 ∧
    decodeTableWord 8 8 = some .quUnpack8 ∧ decodeTableWord 4 7 = some .quUnpack7 ∧
    decodeTableWord 32 1 = some .cmdStart ∧ decodeTableWord 32 3 = none := by decide

/-! ### Placing a word where the next step runs it -/

theorem test_withFetchWord_symbol :
    onNext (step (State.reset.withFetchWord 8 0x3D)) (fun t => (t.padCount, t.scanIdx)) = some (1#32, 0#32) := by decide
theorem test_withFetchWord_trailing : onNext (step (State.reset.withFetchWord 8 5)) (fun t => (t.phase, t.dstLen)) =
    some (.unpack, 3#32) := by decide
theorem test_withFetchWord_quantum :
    onNext (step (State.reset.withFetchWord 4 7)) (fun t => (t.srcCursor, t.dst.cells.length)) = some (7#32, 4) := by decide
theorem test_withFetchWord_command :
    onNext (step (State.reset.withFetchWord 32 1)) (fun t => (t.phase, t.inputs)) = some (.scan, []) := by decide

/-! ### Single steps (95_test_vectors.md) -/

/-- `N` has value 13, `n` too, `3` has 27 (95 S3, 2.3). -/
theorem test_values : onNext (exec .symUpperN (unpacking hello 8#32 0#32)) (fun t => (t.v[0], t.lane)) = some (13#5, 1#3) ∧
    onNext (exec .symLowerN (unpacking hello 8#32 0#32)) (fun t => t.v[0]) = some 13#5 ∧
    onNext (exec .symDigit3 (unpacking hello 8#32 0#32)) (fun t => t.v[0]) = some 27#5 := by decide
/-- `=` and LF inside the content are InvalidCharacter (95 2.4, `NBSWY3=P`). -/
theorem test_pad_in_content :
    onNext (exec .symPad { unpacking hello 8#32 0#32 with lane := 6#3 }) (fun t => (t.phase, t.errCode, t.errPos)) =
      some (.error, .invalidCharacter, 6#32) ∧
    onNext (exec .symLf { unpacking hello 8#32 0#32 with lane := 6#3 }) (fun t => t.errPos) = some 6#32 := by decide
/-- 95 P1 step 1, P2 step 2, P1 step 2. -/
theorem test_scan_rows :
    onNext (exec .pvScanLf (scanning (hello ++ [0x0A#8]) 9#32)) (fun t => (t.lfCount, t.padCount, t.scanIdx)) =
      some (1#32, 0#32, 8#32) ∧
    onNext (exec .pvScanPad (scanning my 8#32)) (fun t => (t.padCount, t.lfCount, t.scanIdx)) = some (1#32, 0#32, 7#32) ∧
    onNext (exec .pvScanEnd (scanning my 2#32)) (fun t => (t.phase, t.scanIdx)) = some (.geom, 2#32) := by decide
/-- 95 P8 step 7: a byte of class INVALID ends the scan with no error. -/
theorem test_scan_ends_at_invalid :
    onNext (step (scanning [0x4E#8, 0x31#8] 2#32)) (fun t => (t.phase, t.errCode)) = some (.geom, .none) := by decide
/-- 95 2.2: the content length 18 has two quanta and two characters more. -/
theorem test_geometry_rows :
    onNext (exec .pvGeomContent (measuring 18#32)) (·.contentLen) = some 18#32 ∧
    onNext (exec .pvGeomQuanta { measuring 18#32 with contentLen := 18#32 }) (·.fullQuanta) = some 2#32 ∧
    onNext (exec .pvGeomTrailing { measuring 18#32 with contentLen := 18#32 }) (·.trailingLen) = some 2#3 := by decide
/-- 95 2.2 with one full quantum: 10, 12, 13, 15 characters give 6, 7, 8, 9 bytes (90 C1 for 13). -/
theorem test_trailing_sizes :
    onNext (exec .pvTL0 { measuring 8#32 with fullQuanta := 1#32 }) (·.size) = some 5 ∧
    onNext (exec .pvTL2 { measuring 8#32 with fullQuanta := 1#32 }) (·.size) = some 6 ∧
    onNext (exec .pvTL4 { measuring 8#32 with fullQuanta := 1#32 }) (·.size) = some 7 ∧
    onNext (exec .pvTL5 { measuring 8#32 with fullQuanta := 1#32 }) (·.size) = some 8 ∧
    onNext (exec .pvTL7 { measuring 8#32 with fullQuanta := 1#32 }) (·.size) = some 9 := by decide
/-- 95 P4: the lengths 1, 3, 6 are error 2. -/
theorem test_trailing_errors :
    onNext (exec .pvTL1 (measuring 1#32)) (fun t => t.errCode.code) = some 2#2 ∧
    onNext (exec .pvTL3 (measuring 3#32)) (fun t => (t.phase, t.errPos, t.dstLen)) = some (.error, 0#32, 0#32) ∧
    onNext (exec .pvTL6 (measuring 6#32)) (fun t => t.errCode.code) = some 2#2 := by decide
/-- 95 2.2, capacity check: SIZE = DST_CAP passes, one byte more is error 3. -/
theorem test_alloc :
    onNext (exec .pvAlloc (withCap 4#32 { measuring 7#32 with trailingLen := 7#3, size := 4 })) (·.dstLen) = some 4#32 ∧
    onNext (exec .pvAlloc (withCap 4#32 { measuring 8#32 with size := 5 })) (fun t => (t.errCode.code, t.phase)) =
      some (3#2, .error) := by decide
/-- 95 P5: capacity 8, the geometry is still reported. -/
theorem test_geom_step_over_capacity :
    onNext (exec .stepGeom (withCap 8#32 (measuring 18#32)))
      (fun t => (t.errCode, t.contentLen, t.fullQuanta, t.trailingLen, t.dstLen)) =
      some (.allocationFailure, 18#32, 2#32, 2#3, 0#32) := by decide
/-- 95 2.4, `N1S` with capacity 0: the length error beats the capacity error. -/
theorem test_geom_step_priority :
    onNext (exec .stepGeom (withCap 0#32 (measuring 3#32))) (·.errCode) = some .invalidTrailingQuantumLength := by decide

/-! The tables of 95 2.3 -/

theorem test_unpack8 : stored .quUnpack8 #v[13#5, 1#5, 18#5, 22#5, 24#5, 27#5, 3#5, 15#5] =
    some [(0, 0x68#8), (1, 0x65#8), (2, 0x6C#8), (3, 0x6C#8), (4, 0x6F#8)] := by decide
theorem test_unpack8_digits : stored .quUnpack8 #v[24#5, 25#5, 26#5, 27#5, 28#5, 29#5, 30#5, 31#5] =
    some [(0, 0xC6#8), (1, 0x75#8), (2, 0xBE#8), (3, 0x77#8), (4, 0xDF#8)] := by decide
theorem test_unpack7 : stored .quUnpack7 #v[13#5, 1#5, 18#5, 22#5, 24#5, 27#5, 8#5, 31#5] =
    some [(0, 0x68#8), (1, 0x65#8), (2, 0x6C#8), (3, 0x6D#8)] := by decide
theorem test_unpack5 : stored .quUnpack5 #v[12#5, 25#5, 23#5, 22#5, 31#5, 31#5, 31#5, 31#5] =
    some [(0, 0x66#8), (1, 0x6F#8), (2, 0x6F#8)] := by decide
theorem test_unpack4 : stored .quUnpack4 #v[8#5, 14#5, 11#5, 20#5, 31#5, 0#5, 0#5, 0#5] =
    some [(0, 0x43#8), (1, 0x97#8)] := by decide
theorem test_unpack2 : stored .quUnpack2 #v[0#5, 4#5, 31#5, 0#5, 0#5, 0#5, 0#5, 0#5] = some [(0, 0x01#8)] := by decide

/-- 95 P1 step 4. -/
theorem test_unpack_step : onNext (exec .stepUnpack (unpacking hello 8#32 0#32))
    (fun t => (t.srcCursor, t.dstCursor, t.dst.cells.map (·.2))) =
      some (8#32, 5#32, [0x68#8, 0x65#8, 0x6C#8, 0x6C#8, 0x6F#8]) := by decide
/-- 95 P3 step 3. -/
theorem test_unpack_step_error : onNext (exec .stepUnpack (unpacking badHello 8#32 0#32))
    (fun t => (t.phase, t.errCode, t.errPos, t.srcCursor, t.dst.cells.length)) =
      some (.error, .invalidCharacter, 1#32, 0#32, 0) := by decide
/-- 95 P1 step 5. -/
theorem test_done : onNext (exec .stepDone (unpacking hello 8#32 8#32)) (·.status) = some 0b010#3 := by decide
/-- 95 P6 line 6. -/
theorem test_start : onNext (exec .cmdStart { loaded hello with phase := .error, errCode := .invalidCharacter, errPos := 1#32 })
    (fun t => (t.errCode, t.errPos, t.scanIdx, t.status)) = some (.none, 0#32, 8#32, 0b001#3) := by decide
/-- 95 P6 line 9. -/
theorem test_clear : onNext (exec .cmdClear { loaded hello with phase := .done, dstLen := 5#32 })
    (fun t => (t.phase, t.dstLen, t.srcLen)) = some (.idle, 0#32, 8#32) := by decide
/-- 95 2.5: CTRL = 3 changes nothing, SRC_LEN is ignored while BUSY and taken in DONE. -/
theorem test_register_writes :
    onNext (step (pending .idle [.writeReg 0 3#32])) (·.phase) = some .idle ∧
    onNext (step (pending .scan [.writeReg 4 3#32])) (·.srcLen) = some 0#32 ∧
    onNext (step (pending .done [.writeReg 4 3#32])) (fun t => (t.srcLen, t.status)) = some (3#32, 0b010#3) ∧
    onNext (step (pending .done [.writeReg 5 7#32])) (·.dstLen) = some 0#32 := by decide
/-- 10 R19: the numbers of the three errors as the host reads them, and 0 where none is recorded. -/
theorem test_error_numbers :
    onNext (step (pending .done [.readReg 2])) (·.busData) = some 0#32 ∧
    ([ErrCode.invalidCharacter, .invalidTrailingQuantumLength, .allocationFailure].map fun e =>
      onNext (step { pending .error [.readReg 2] with errCode := e }) (·.busData)) = [some 1#32, some 2#32, some 3#32] := by
  decide
/-- The conventional encoder and the decoder on `foobar` (95 2.2). -/
theorem test_round_trip :
    encodeText [0x66#8, 0x6F#8, 0x6F#8, 0x62#8, 0x61#8, 0x72#8] =
      [0x4D#8, 0x5A#8, 0x58#8, 0x57#8, 0x36#8, 0x59#8, 0x54#8, 0x42#8, 0x4F#8, 0x49#8] ++ List.replicate 6 0x3D#8 := by decide

/-! ### Witnesses: for each statement with hypotheses, states and operands that meet them -/

/-- For EncodersAndDecodersAgree. -/
theorem witness_encoders : (Instr.symInvalid 0x31#8).wellFormed = true ∧
    encode (.symInvalid 0x31#8) = some (.sym8 0x31#8) ∧ decodeBytes .ctrl32 (bytesOf (.ctrl32 2#32)) = .ok .cmdClear :=
  ⟨by decide, rfl, rfl⟩

/-- For LetterCodesHaveTheirClassAndValue and LowercaseActsAsUppercase: the ends of both ranges. -/
theorem witness_letters : valueOf 0x41#8 = some 0#5 ∧ valueOf 0x5A#8 = some 25#5 ∧ valueOf 0x61#8 = some 0#5 ∧
    valueOf 0x7A#8 = some 25#5 := by decide

/-- For OtherCodesHaveTheirClass: the ends of the range, and the codes next to every range. -/
theorem witness_other_codes : valueOf 0x32#8 = some 26#5 ∧ valueOf 0x37#8 = some 31#5 ∧ classOf 0x3D#8 = .pad ∧
    classOf 0x0A#8 = .lf ∧ ([0x40#8, 0x5B#8, 0x60#8, 0x7B#8, 0x31#8, 0x38#8, 0x3C#8, 0x3E#8, 0x09#8, 0x0B#8].all
      fun c => classOf c == .invalid) = true := by decide

/-- For ValueRowsDeliverTheirValue: the last row of each list. -/
theorem witness_value_rows : upperRows[25]? = some .symUpperZ ∧ lowerRows[25]? = some .symLowerZ ∧
    digitRows[5]? = some .symDigit7 := by decide

/-- For PadAndNewlineRowsRunByPosition and InvalidRowRunsByPosition: one state for each clause. -/
theorem witness_positions : ((scanning my 8#32).phase = .scan ∧ (scanning my 8#32).scanIdx ≠ 0#32) ∧
    ((scanning my 0#32).phase = .scan ∧ (scanning my 0#32).scanIdx = 0#32) ∧ (unpacking my 2#32 0#32).phase = .unpack ∧
    State.reset.phase ≠ .scan ∧ State.reset.phase ≠ .unpack := by decide

/-- For ScanRowsFollowTheClass: SCAN_IDX 0, and the last byte of SRC (`SCAN_IDX = SRC_LEN`) of each class. -/
theorem witness_scan_rows : (scanning my 0#32).phase = .scan ∧ (scanning my 0#32).scanIdx = 0#32 ∧
    (scanning [0x3D#8] 1#32).phase = .scan ∧ (scanning [0x3D#8] 1#32).scanIdx ≠ 0#32 ∧
    ([0x3D#8, 0x0A#8, 0x41#8, 0x7A#8, 0x37#8, 0x00#8].map fun c => classOf ((scanning [c] 1#32).src.read 0)) =
      [SymClass.pad, .lf, .upper, .lower, .digit, .invalid] ∧
    (scanning [0x3D#8] 1#32).scanIdx.toNat ≤ (scanning [0x3D#8] 1#32).srcLen.toNat ∧
    (scanning [0x3D#8] 1#32).scanIdx.toNat ≤ (scanning [0x3D#8] 1#32).cfg.srcCap.toNat := by decide

/-- For UnselectedPhaseRowsAreRefused: one state for each clause. -/
theorem witness_unselected : State.reset.phase ≠ .scan ∧ State.reset.scanIdx = 0#32 ∧
    (scanning my 2#32).scanIdx ≠ 0#32 ∧ classOf ((scanning my 2#32).src.read 1) ≠ .pad ∧
    classOf ((scanning my 2#32).src.read 1) ≠ .lf ∧ classOf ((scanning my 8#32).src.read 7) ∈ [SymClass.pad, .lf] ∧
    State.reset.phase ≠ .geom ∧ ({ measuring 1#32 with trailingLen := 1#3 } : State).trailingLen ∈ [1#3, 3#3, 6#3] ∧
    State.reset.phase ≠ .unpack ∧ (unpacking my 2#32 0#32).srcCursor ≠ (unpacking my 2#32 0#32).contentLen := by decide

/-- `MY======` when the scan has ended. -/
def myMeasured : State := { scanning my 2#32 with phase := .geom, padCount := 6#32 }

/-- `MY======` when its one quantum is unpacked. -/
def myUnpacked : State :=
  { loaded my with
    phase := .unpack, padCount := 6#32, contentLen := 2#32, trailingLen := 2#3, dstLen := 1#32
    srcCursor := 2#32, dstCursor := 1#32, dst := State.reset.dst.write 0 0x66#8 }

/-- The trailer of `MY======` in SRC. -/
theorem my_trailer (i : Nat) (h : 2 ≤ i) (h' : i < 8) : isTrailerByte ((loaded my).src.read i) = true := by
  have : ∀ i < 8, 2 ≤ i → isTrailerByte ((loaded my).src.read i) = true := by decide
  exact this i h' h

theorem myMeasured_inv : Inv myMeasured where
  srcWf := by decide
  dstWf := by decide
  srcWithin := by decide
  dstWithin := by decide
  errRecorded := by decide
  posOnlyForCharacter := by decide
  noOutputOnError := by decide
  outputFits := by decide
  quanta := by decide
  trailing := by decide
  inputFits := by decide
  laneEmpty := by decide
  sizeEmpty := by decide
  scanning := fun h => absurd h (by decide)
  measuring := fun _ =>
    ⟨⟨by decide, my_trailer, by decide⟩, .inr (by decide), ⟨by decide, by decide, by decide, by decide⟩⟩
  unpacking := fun h => absurd h (by decide)
  finished := fun h => absurd h (by decide)

theorem myUnpacked_inv : Inv myUnpacked where
  srcWf := by decide
  dstWf := by decide
  srcWithin := by decide
  dstWithin := by decide
  errRecorded := by decide
  posOnlyForCharacter := by decide
  noOutputOnError := by decide
  outputFits := by decide
  quanta := by decide
  trailing := by decide
  inputFits := by decide
  laneEmpty := by decide
  sizeEmpty := by decide
  scanning := fun h => absurd h (by decide)
  measuring := fun h => absurd h (by decide)
  unpacking := fun _ =>
    ⟨⟨by decide, my_trailer, by decide⟩, .inr (by decide), by decide, by decide, by decide, by decide, by decide⟩
  finished := fun h => absurd h (by decide)

/-- For GeometryRowsWriteTheirRegister, GeomStepRunsItsRowsInOrder, EveryStepKeepsTheInvariant, DutifulRunsNeverStop and
PhasesFollowTheFixedOrder: a state in GEOM with the invariant, a dutiful host, and a step. -/
theorem witness_geom : myMeasured.phase = .geom ∧ Inv myMeasured ∧ Dutiful myMeasured ∧ BlockMoves myMeasured ∧
    onNext (step myMeasured) (·.phase) = some .unpack := ⟨rfl, myMeasured_inv, trivial, .inl rfl, by decide⟩

/-- For UnpackStepEndsInDone, and a step of the invariant from UNPACK. -/
theorem witness_unpack_end : myUnpacked.phase = .unpack ∧ myUnpacked.srcCursor = myUnpacked.contentLen ∧ Inv myUnpacked ∧
    onNext (step myUnpacked) (·.phase) = some .done := ⟨rfl, rfl, myUnpacked_inv, by decide⟩

/-- For AllocationChecksCapacity: SIZE one above DST_CAP and equal to it, for every valid TRAILING_LEN. -/
theorem witness_alloc : ([0#3, 2#3, 4#3, 5#3, 7#3].all fun len =>
      onNext (exec .pvAlloc { measuring 0#32 with trailingLen := len, size := 17 }) (·.phase) == some .error &&
      onNext (exec .pvAlloc { measuring 0#32 with trailingLen := len, size := 16 }) (·.dstLen) == some 16#32) = true := by
  decide

/-- For GeomStepMeasuresAndDecides, DST_CAP being 16: remainders 1, 3, 6; SIZE 17 (28 characters) and SIZE 16 (26). -/
theorem witness_geom_step : ([25, 27, 30].all fun n => n % 8 ∈ [1, 3, 6]) = true ∧ 28 % 8 ∉ [1, 3, 6] ∧
    (measuring 28#32).cfg.dstCap.toNat < 5 * (measuring 28#32).scanIdx.toNat / 8 ∧ 26 % 8 ∉ [1, 3, 6] ∧
    5 * (measuring 26#32).scanIdx.toNat / 8 = (measuring 26#32).cfg.dstCap.toNat := by decide

/-- For UnpackRowsEmitTheirBytes and UnpackRowsStopAtTheEndOfDst: the last DST_CURSOR with room for each row, and the
first without. -/
theorem witness_unpack_rows : (unpackRows.map fun row => 16 - row.2.2) = [11, 12, 13, 14, 15] ∧
    (lanes (Vector.replicate 8 0#5)).cfg.dstCap.toNat = 16 ∧
    onNext (exec .quUnpack8 { lanes (Vector.replicate 8 0#5) with dstCursor := 11#32 }) (·.dst.cells.length) = some 5 ∧
    onNext (exec .quUnpack8 { lanes (Vector.replicate 8 0#5) with dstCursor := 12#32 }) (·.phase) = none := by decide

/-- For DiscardedBitsAreIgnored: `MY` and `MZ` (95 2.3) differ in the discarded bits, and here in an absent character. -/
theorem witness_discarded :
    AgreeButDiscarded 2 2 #v[12#5, 24#5, 0#5, 0#5, 0#5, 0#5, 0#5, 0#5] #v[12#5, 25#5, 0#5, 0#5, 0#5, 0#5, 0#5, 31#5] := by
  unfold AgreeButDiscarded; decide

/-- For UnpackStepDecodesOneQuantum and UnpackStepRunsDecodedRows: a full quantum, and one of two characters. -/
theorem witness_quantum_fits : QuantumFits (unpacking hello 8#32 0#32) ∧
    firstBad (quantumChars (unpacking hello 8#32 0#32)) = none ∧ QuantumFits (unpacking my 2#32 0#32) ∧
    firstBad (quantumChars (unpacking my 2#32 0#32)) = none ∧
    (unpacking my 2#32 0#32).srcCursor ≠ (unpacking my 2#32 0#32).contentLen :=
  ⟨⟨⟨rfl, by decide, by decide⟩, by decide, by decide⟩, by decide,
    ⟨⟨rfl, by decide, by decide⟩, by decide, by decide⟩, by decide, by decide⟩

/-- For UnpackStepReportsTheFirstBadCharacter: the first and the second character. -/
theorem witness_bad_character : QuantumReadable (unpacking badHello 8#32 0#32) ∧
    firstBad (quantumChars (unpacking badHello 8#32 0#32)) = some 1 ∧
    QuantumReadable (unpacking [0x38#8, 0x41#8] 2#32 0#32) ∧
    firstBad (quantumChars (unpacking [0x38#8, 0x41#8] 2#32 0#32)) = some 0 :=
  ⟨⟨rfl, by decide, by decide⟩, by decide, ⟨rfl, by decide, by decide⟩, by decide⟩

/-- For StartClearsResultsAndScans and StartBeyondCapacityIsRefused: SRC_LEN at SRC_CAP and one above. -/
theorem witness_start : (loaded (List.replicate 32 0x41#8)).busy = false ∧
    (loaded (List.replicate 32 0x41#8)).srcLen.toNat = (loaded (List.replicate 32 0x41#8)).cfg.srcCap.toNat ∧
    (loaded (List.replicate 33 0x41#8)).busy = false ∧
    (loaded (List.replicate 33 0x41#8)).cfg.srcCap.toNat < (loaded (List.replicate 33 0x41#8)).srcLen.toNat := by decide

/-- For ClearReturnsToIdle, BusyBlockLosesCommands, CtrlWritesRunTheDecodedCommand: at rest and BUSY, each word. -/
theorem witness_commands : (pending .done []).busy = false ∧ (pending .geom [.writeReg 0 1#32]).busy = true ∧
    (pending .geom [.writeReg 0 1#32]).inputs = .writeReg 0 1#32 :: [] ∧
    (pending .idle [.writeBus 0 2#32]).inputs = .writeBus 0 2#32 :: [] ∧ decode (.ctrl32 2#32) = .ok .cmdClear ∧
    onNext (step (pending .done [.writeBus 0 1#32])) (·.phase) = some .scan ∧
    onNext (step (pending .done [.writeReg 0 2#32])) (·.phase) = some .idle ∧
    (pending .geom [.writeBus 0 1#32]).busy = true ∧
    onNext (step (pending .geom [.writeBus 0 1#32])) (·.phase) = some .geom ∧
    (3#32 ≠ 1#32 ∧ 3#32 ≠ 2#32) := ⟨rfl, rfl, rfl, rfl, rfl, by decide, by decide, rfl, by decide, by decide⟩

/-- For StepRunsTheSelectedOperation: one state for each clause. -/
theorem witness_selected : (measuring 2#32).inputs = [] ∧ (unpacking my 2#32 2#32).srcCursor = 2#32 ∧
    (unpacking my 2#32 0#32).srcCursor ≠ (unpacking my 2#32 0#32).contentLen ∧ (scanning my 0#32).scanIdx = 0#32 ∧
    (scanning my 8#32).scanIdx ≠ 0#32 ∧ (scanning my 8#32).srcByte 7 = .ok 0x3D#8 ∧
    decode (.sym8 0x3D#8) = .ok .symPad ∧ (pending .scan [.wait]).inputs = .wait :: [] :=
  ⟨rfl, rfl, by decide, rfl, by decide, rfl, rfl, rfl⟩

/-- For RestStatesHoldEverything: the three rest states. -/
theorem witness_rest : (pending .idle []).busy = false ∧ (pending .done []).busy = false ∧
    (pending .error [.wait]).busy = false := by decide

/-- For RegistersReadBackAtRest, StatusFollowsThePhase and BusyReadsReturnAnyValueOfTheWidth: registers 2, 10, 12 and 13,
by number and by offset, at rest and BUSY. -/
theorem witness_reads : (pending .done [.readReg 12]).busy = false ∧
    (pending .done [.readBus 52]).busy = false ∧ (pending .done [.readBus 52]).inputs = [.readBus (4 * 13)] ∧
    (pending .unpack [.readReg 2]).busy = true ∧
    (pending .unpack [.readBus 40]).busy = true ∧ (pending .unpack [.readBus 40]).inputs = [.readBus (4 * 10)] ∧
    (pending .scan [.readReg 1]).busy = true ∧
    onNext (step (pending .scan [.readReg 1])) (·.busData) = some 1#32 ∧
    onNext (step (pending .done [.readReg 1])) (·.busData) = some 2#32 ∧
    onNext (step (pending .unpack [.readReg 13])) (·.busData) = some 0#32 ∧
    onNext (step (pending .unpack [.readReg 10])) (·.draws) = some 3 := by decide

/-- For RegisterWritesReachOnlySrcLen, HostBufferWritesNeedRest and DstReadsReturnWhatTheBufferHolds: the last index of each
buffer, at rest and BUSY. -/
theorem witness_host_accesses : 31 < State.reset.cfg.srcCap.toNat ∧ 15 < State.reset.cfg.dstCap.toNat ∧
    onNext (step (pending .done [.writeSrc 31 0x41#8])) (·.src.byte? 31) = some (some 0x41#8) ∧
    onNext (step (pending .done [.writeDst 15 0x41#8])) (·.dst.byte? 15) = some (some 0x41#8) ∧
    onNext (step (pending .scan [.writeSrc 31 0x41#8])) (·.phase) = none ∧
    onNext (step { pending .done [.readDst 15] with dst := State.reset.dst.write 15 0x80#8 }) (·.busData) = some 0x80#32 ∧
    onNext (step (pending .scan [.readDst 15])) (·.draws) = some 3 ∧
    onNext (step (pending .done [.writeBus 16 7#32])) (·.srcLen) = some 7#32 ∧
    onNext (step (pending .scan [.writeReg 4 7#32])) (·.srcLen) = some 0#32 := by decide

/-- For ResetAbandonsAnyState: a running transaction. -/
theorem witness_reset : (pending .unpack [.reset, .wait]).inputs = .reset :: [.wait] ∧
    onNext (step (pending .unpack [.reset, .wait])) (fun t => (t.phase, t.inputs)) = some (.idle, [.wait]) := by decide

theorem pendingWrite_inv : Inv (pending .idle [.writeSrc 31 0x41#8]) where
  srcWf := by decide
  dstWf := by decide
  srcWithin := by decide
  dstWithin := by decide
  errRecorded := by decide
  posOnlyForCharacter := by decide
  noOutputOnError := by decide
  outputFits := by decide
  quanta := by decide
  trailing := by decide
  inputFits := by decide
  laneEmpty := by decide
  sizeEmpty := by decide
  scanning := fun h => absurd h (by decide)
  measuring := fun h => absurd h (by decide)
  unpacking := fun h => absurd h (by decide)
  finished := fun h => absurd h (by decide)

/-- For DutifulRunsNeverStop: the last byte of SRC written at rest; the last byte of DST read; a START that fits. -/
theorem witness_dutiful : Inv (pending .idle [.writeSrc 31 0x41#8]) ∧ Dutiful (pending .idle [.writeSrc 31 0x41#8]) ∧ Dutiful (pending .idle [.readDst 15]) ∧
    Dutiful { loaded hello with inputs := [.writeBus 0 1#32] } :=
  ⟨pendingWrite_inv, ⟨rfl, by decide⟩, (by decide : 15 < 16), rfl, fun _ _ _ => by decide⟩

/-- For BlockLeavesTheInputAlone, OnlyStartLeavesRest, ErrorEntryRecordsTheError and NoStepChangesTheCapacities: steps from rest
into SCAN, from UNPACK into ERROR and DONE, and from GEOM into ERROR. -/
theorem witness_steps : WritesStart (pending .idle [.writeReg 0 1#32]) ∧
    onNext (step (pending .idle [.writeReg 0 1#32])) (·.busy) = some true ∧
    BlockMoves (unpacking badHello 8#32 0#32) ∧ onNext (step (unpacking badHello 8#32 0#32)) (·.phase) = some .error ∧
    onNext (step (unpacking hello 8#32 8#32)) (·.busy) = some false ∧
    onNext (step (measuring 3#32)) (·.phase) = some .error ∧
    onNext (step (scanning my 8#32)) (·.phase) = some .scan :=
  ⟨⟨[], .inl rfl⟩, by decide, .inl rfl, by decide, by decide, by decide, by decide⟩

/-- `MY======` in a block that has decoded something else before. -/
def usedMy : State :=
  { loaded my with phase := .done, dstLen := 5#32, dstCursor := 5#32, v := #v[1#5, 2#5, 3#5, 4#5, 5#5, 6#5, 7#5, 8#5] }

/-- For MachineAgreesWithDecode, TransactionsEndInTheStatedSteps and NoHiddenState: the ready states of `MY======` and of a
used block with the same input; the run takes (6 + 1) + 1 + (1 + 1) steps (95 2.2). -/
theorem witness_ready : Ready (loaded my) ∧ Ready usedMy ∧ textOf (loaded my) = textOf usedMy ∧
    (∃ s0, exec .cmdStart (loaded my) = .next s0 ∧ onNext (core.run 10 s0) (·.busy) = some false ∧
      onNext (core.run 9 s0) (·.busy) = some true) ∧
    resultOf (loaded my) = .ok [0x66#8] :=
  ⟨⟨rfl, by decide, rfl⟩, ⟨rfl, by decide, rfl⟩, rfl, ⟨_, rfl, by decide, by decide⟩, rfl⟩

/-- For DecodeInvertsTheConventionalEncoder, DecodedLengthIsTheTableSize, ErrorsComeInTheFixedPriority,
TrailerOnlyInputsDecodeToNothing and RoomyDstNeverFailsAllocation: DST_CAP exactly as long as the output. -/
theorem witness_decode : [0x66#8].length ≤ 1 ∧ decodeText 1 my = .ok [0x66#8] ∧
    decodeText 0 my = .error .allocationFailure ∧ decodeText 5 badHello = .error (.invalidCharacter 1) ∧
    decodeText 4 badHello = .error .allocationFailure ∧
    decodeText 0 [0x4E#8, 0x31#8, 0x53#8] = .error .invalidTrailingQuantumLength ∧
    (∀ c ∈ [0x3D#8, 0x0A#8, 0x3D#8], c = 0x3D#8 ∨ c = 0x0A#8) ∧ my.length ≤ 8 ∧ 5 * 8 / 8 ≤ 5 :=
  ⟨by decide, rfl, rfl, rfl, rfl, rfl, by decide, by decide, by decide⟩

end Sys2Proof.Tests
end

section
/-! PROOFS. The size of the output against the length of the content, what the unpack rows do, and the statements of the
family 00_scope.md. -/

namespace Sys2Proof.Laws

open Sys2Proof.Machine Sys2Proof.Claims

/-! ### The size of the output and its check against DST_CAP (43 R150) -/

/-- The content is no longer than the input (40 R80). -/
theorem contentLenOf_le_length (text : List Byte) : contentLenOf text ≤ text.length :=
  Nat.sub_le text.length (trailerOf text).length

/-- Where the trailing length is valid, `5 * fq + tbl(tl)` is the whole bytes in 5 bits per character (40 R98). -/
theorem decodedSize?_eq_some {c size : Nat} :
    decodedSize? c = some size ↔ c % 8 ∉ [1, 3, 6] ∧ size = 5 * c / 8 := by
  have hcases : c % 8 = 0 ∨ c % 8 = 1 ∨ c % 8 = 2 ∨ c % 8 = 3 ∨ c % 8 = 4 ∨ c % 8 = 5 ∨ c % 8 = 6 ∨ c % 8 = 7 := by
    omega
  rcases hcases with h | h | h | h | h | h | h | h <;> simp [decodedSize?, h] <;> omega

/-- The allocation check fails exactly where a size is known and DST_CAP is below it (60 R183). -/
theorem decodeText_eq_allocationFailure {cap : Nat} {text : List Byte} :
    decodeText cap text = .error .allocationFailure ↔
      ∃ size, decodedSize? (contentLenOf text) = some size ∧ cap < size := by
  unfold decodeText
  cases decodedSize? (contentLenOf text) with
  | none => simp
  | some size =>
    by_cases hcap : cap < size
    · simp [hcap]
    · cases firstBad (contentOf text) <;> simp [hcap]

/-! ### The unpack rows (42 R131 to R135) -/

/-- A store of bytes faults exactly where they do not all have an index in DST, at the first index that is not there. -/
theorem storeBytes_fault {bs : List Byte} {s : State} {f : Fault} :
    storeBytes bs s = .fault f ↔
      s.cfg.dstCap.toNat < s.dstCursor.toNat + bs.length ∧
        f = .dstIndexOutOfRange (max s.dstCursor.toNat s.cfg.dstCap.toNat) := by
  unfold storeBytes
  split <;> simp_all [eq_comm]

/-- An unpack row for `n` characters stores the bytes of a quantum of `n`, and the table has their number. -/
theorem exec_unpackRow {row : Instr × Nat × Nat} (hrow : row ∈ unpackRows) (s : State) :
    exec row.1 s = storeBytes (quantumBytes row.2.1 s.v) s ∧ bytesOut row.2.1 = row.2.2 := by
  simp only [unpackRows, List.mem_cons, List.not_mem_nil, or_false] at hrow
  obtain rfl | rfl | rfl | rfl | rfl := hrow <;> exact ⟨rfl, rfl⟩

end Sys2Proof.Laws

namespace Sys2Proof.Proofs

open Sys2Proof.Machine Sys2Proof.Laws

/-- Settles O55: the size is `floor(5c / 8)` for a content length `c`, which is at most SRC_CAP. -/
theorem roomyDstNeverFailsAllocation : Obligations.RoomyDstNeverFailsAllocation := by
  intro srcCap dstCap text hsrc hdst hfail
  obtain ⟨size, hsize, hcap⟩ := decodeText_eq_allocationFailure.mp hfail
  obtain ⟨-, rfl⟩ := decodedSize?_eq_some.mp hsize
  have hlen : contentLenOf text ≤ srcCap := (contentLenOf_le_length text).trans hsrc
  have hroom : 5 * contentLenOf text / 8 ≤ dstCap :=
    (Nat.div_le_div_right (Nat.mul_le_mul_left 5 hlen)).trans hdst
  exact hcap.not_ge hroom

/-- Settles O18: each row is a store of its bytes, which faults at the larger of DST_CURSOR and DST_CAP. -/
theorem unpackRowsStopAtTheEndOfDst : Obligations.UnpackRowsStopAtTheEndOfDst := by
  intro row hrow s hover
  obtain ⟨hexec, hbytes⟩ := exec_unpackRow hrow s
  have hlong : s.cfg.dstCap.toNat < s.dstCursor.toNat + (quantumBytes row.2.1 s.v).length := by
    rwa [length_quantumBytes, hbytes]
  exact ⟨_, le_max_right _ _, hexec.trans (storeBytes_fault.mpr ⟨hlong, rfl⟩)⟩

end Sys2Proof.Proofs
end

section
/-! PROOFS. What one step of the block can do, case by case: the scan by the byte it looks at, the GEOM step by the
decoded size, the UNPACK step by the first bad character of its quantum. -/

namespace Sys2Proof.Laws

open Sys2Proof.Machine Sys2Proof.Safety Sys2Proof.Claims

/-! ### The GEOM step -/

@[simp] theorem toNat_fullQuantaOf (c : Word) : (fullQuantaOf c).toNat = c.toNat / 8 := by
  simp [fullQuantaOf, Nat.shiftRight_eq_div_pow]

@[simp] theorem toNat_trailingLenOf (c : Word) : (trailingLenOf c).toNat = c.toNat % 8 := by
  simp [trailingLenOf]

/-- The size of 43 R150 is what the table of 40 R90 to R97 contributes to the full quanta. -/
theorem decodedSize?_toNat (c : Word) :
    decodedSize? c.toNat = (tbl (trailingLenOf c)).map (contributedSize (fullQuantaOf c)) := by
  have hlt : c.toNat % 8 < 8 := Nat.mod_lt _ (by decide)
  simp only [decodedSize?, tbl, toNat_trailingLenOf]
  interval_cases c.toNat % 8 <;> simp [contributedSize]

/-- TRAILING_LEN selects the row that contributes what the table says. -/
theorem execTrailing_of_tbl_some {s : State} {b : Nat} (h : tbl s.trailingLen = some b) :
    execTrailing s = contribute b s := by
  have hlt : s.trailingLen.toNat < 8 := s.trailingLen.isLt
  unfold tbl at h
  unfold execTrailing
  interval_cases s.trailingLen.toNat <;> cases h <;> rfl

/-- TRAILING_LEN selects a row that raises where the table says nothing. -/
theorem execTrailing_of_tbl_none {s : State} (h : tbl s.trailingLen = none) : execTrailing s = rejectLength s := by
  have hlt : s.trailingLen.toNat < 8 := s.trailingLen.isLt
  unfold tbl at h
  unfold execTrailing
  interval_cases s.trailingLen.toNat <;> cases h <;> rfl

/-- The state after the first three actions of the GEOM step (40 R85 to R87). -/
def measured (s : State) : State :=
  { s with
    contentLen := s.scanIdx, fullQuanta := fullQuantaOf s.scanIdx, trailingLen := trailingLenOf s.scanIdx }

/-- The state after a GEOM step that found room for `size` bytes, but for what a step leaves unspecified (43 R157). -/
def allocated (size : Nat) (s : State) : State :=
  { measured s with dstLen := BitVec.ofNat 32 size, phase := .unpack }

/-- The GEOM step after its first three actions. -/
theorem execStepGeom_eq {s : State} (h : s.phase = .geom) :
    execStepGeom s = endStep (andThen (execTrailing (measured s)) fun a =>
      andThen (execPvAlloc a) fun b => .next { b with phase := .unpack }) := by
  simp [execStepGeom, execPvGeomContent, execPvGeomQuanta, execPvGeomTrailing, ifSelected, andThen, h, measured]

/-- The end of the GEOM step, after a trailing-length rule that did not raise. -/
theorem execPvAlloc_andThen_unpack {s : State} {b : Nat} (h : s.phase = .geom) (htbl : tbl s.trailingLen = some b) :
    (andThen (execPvAlloc s) fun t => .next { t with phase := .unpack }) = .next
      (if s.cfg.dstCap.toNat < s.size then s.raised .allocationFailure 0#32
      else { s with dstLen := BitVec.ofNat 32 s.size, phase := .unpack }) := by
  by_cases hcap : s.cfg.dstCap.toNat < s.size <;> simp [execPvAlloc, ifSelected, andThen, h, htbl, hcap]

theorem execStepGeom_badLength {s : State} (h : s.phase = .geom) (hsize : decodedSize? s.scanIdx.toNat = none) :
    execStepGeom s = .next ((measured s).raised .invalidTrailingQuantumLength 0#32).stepEnded := by
  rw [decodedSize?_toNat, Option.map_eq_none_iff] at hsize
  rw [execStepGeom_eq h, execTrailing_of_tbl_none (s := measured s) hsize, rejectLength, andThen_of_error rfl]
  rfl

/-- Where the trailing length is valid, the GEOM step compares the decoded size with DST_CAP. -/
theorem execStepGeom_size {s : State} {size : Nat} (h : s.phase = .geom)
    (hsize : decodedSize? s.scanIdx.toNat = some size) :
    execStepGeom s = .next
      (if s.cfg.dstCap.toNat < size then (measured s).raised .allocationFailure 0#32
      else allocated size s).stepEnded := by
  rw [decodedSize?_toNat, Option.map_eq_some_iff] at hsize
  obtain ⟨b, hb, rfl⟩ := hsize
  have hgeom : s.phase ≠ .error := by simp [h]
  rw [execStepGeom_eq h, execTrailing_of_tbl_some (s := measured s) hb, contribute, andThen_of_next (by exact hgeom),
    execPvAlloc_andThen_unpack (b := b) (by exact h) (by exact hb)]
  by_cases hcap : s.cfg.dstCap.toNat < contributedSize (fullQuantaOf s.scanIdx) b
  · rw [if_pos (by exact hcap), if_pos hcap]
    rfl
  · rw [if_neg (by exact hcap), if_neg hcap]
    rfl

/-! ### The characters of a quantum -/

/-- The character loop of 43 R158 over a list of characters: each value goes to the next lane, the first character without
one raises. -/
def loadAll : List Byte → State → State
  | [], s => s
  | c :: cs, s =>
    match valueOf c with
    | some x => loadAll cs (s.laneLoaded x)
    | none => s.raised .invalidCharacter (s.srcCursor + s.lane.setWidth 32)

/-- How many characters the loop looks at: all, or those up to the first bad one. -/
def lookedAt (cs : List Byte) : Nat := (firstBad cs).elim cs.length (· + 1)

/-- `SRC[a .. a + m - 1]` are bytes of the input and of SRC (00 R7, 20 R44). -/
def Readable (s : State) (a m : Nat) : Prop := ∀ i < m, a + i < s.srcLen.toNat ∧ a + i < s.cfg.srcCap.toNat

/-- The next `k` characters of the loop. -/
def nextChars (k : Nat) (s : State) : List Byte :=
  (List.range k).map fun i => s.src.read (s.srcCursor.toNat + s.lane.toNat + i)

theorem firstBad_cons_of_value {c : Byte} {x : Sym} (h : valueOf c = some x) (cs : List Byte) :
    firstBad (c :: cs) = (firstBad cs).map (· + 1) := by
  simp [firstBad, isContentByte, h]

theorem firstBad_cons_of_none {c : Byte} (h : valueOf c = none) (cs : List Byte) : firstBad (c :: cs) = some 0 := by
  simp [firstBad, isContentByte, h]

theorem lookedAt_cons_of_value {c : Byte} {x : Sym} (h : valueOf c = some x) (cs : List Byte) :
    lookedAt (c :: cs) = lookedAt cs + 1 := by
  rw [lookedAt, lookedAt, firstBad_cons_of_value h]
  cases firstBad cs <;> rfl

theorem lookedAt_cons_of_none {c : Byte} (h : valueOf c = none) (cs : List Byte) : lookedAt (c :: cs) = 1 := by
  rw [lookedAt, firstBad_cons_of_none h]; rfl

theorem readable_succ {s : State} {a m : Nat} :
    Readable s a (m + 1) ↔ (a < s.srcLen.toNat ∧ a < s.cfg.srcCap.toNat) ∧ Readable s (a + 1) m := by
  constructor
  · intro h
    exact ⟨h 0 (by omega), fun i hi => by have := h (i + 1) (by omega); omega⟩
  · rintro ⟨h0, h⟩ i hi
    cases i with
    | zero => exact h0
    | succ i => have := h i (by omega); omega

/-- A lane that is not the last has its successor next to it. -/
theorem toNat_lane_succ {l : BitVec 3} (h : l.toNat < 7) : (l + 1#3).toNat = l.toNat + 1 := by
  rw [BitVec.toNat_add]; simp; omega

theorem nextChars_succ {k : Nat} {s : State} (x : Sym) (hk : s.lane.toNat + (k + 1) ≤ 8) :
    nextChars (k + 1) s = s.src.read (s.srcCursor.toNat + s.lane.toNat) :: nextChars k (s.laneLoaded x) := by
  simp only [nextChars, List.range_succ_eq_map, List.map_cons, List.map_map, Nat.add_zero, List.cons.injEq, true_and]
  refine List.map_congr_left fun i hi => ?_
  have hlane := toNat_lane_succ (l := s.lane) (by have := List.mem_range.mp hi; omega)
  simp [hlane, Nat.add_assoc, Nat.add_comm 1 i]

/-- The character loop is `loadAll` on the characters in SRC, as far as they can be read. -/
theorem loadLanes_next {k : Nat} {s t : State} (hp : s.phase = .unpack) (hk : s.lane.toNat + k ≤ 8) :
    loadLanes k s = .next t ↔
      Readable s (s.srcCursor.toNat + s.lane.toNat) (lookedAt (nextChars k s)) ∧ t = loadAll (nextChars k s) s := by
  induction k generalizing s with
  | zero => simp [loadLanes, nextChars, lookedAt, firstBad, loadAll, Readable, eq_comm]
  | succ k ih =>
    rw [nextChars_succ 0#5 hk]
    by_cases hin : s.srcCursor.toNat + s.lane.toNat < s.srcLen.toNat ∧
        s.srcCursor.toNat + s.lane.toNat < s.cfg.srcCap.toNat
    · have hread := srcByte_ok hin.1 hin.2
      cases hv : valueOf (s.src.read (s.srcCursor.toNat + s.lane.toNat)) with
      | none =>
        rw [loadLanes_raise hp hread hv, lookedAt_cons_of_none hv, loadAll, hv]
        simp [Readable, hin, eq_comm]
      | some x =>
        rw [← nextChars_succ 0#5 hk, nextChars_succ x hk, loadLanes_accept hp hread hv, lookedAt_cons_of_value hv,
          loadAll, hv, readable_succ]
        cases k with
        | zero => simp [loadLanes, nextChars, lookedAt, firstBad, loadAll, Readable, hin, eq_comm]
        | succ k =>
          have hlane := toNat_lane_succ (l := s.lane) (by omega)
          rw [ih (by simpa using hp) (by simp [hlane]; omega)]
          simp [hlane, hin, Readable, Nat.add_assoc]
    · have hfault : s.srcByte (s.srcCursor.toNat + s.lane.toNat) = .error (.srcIndexOutOfRange
          (s.srcCursor.toNat + s.lane.toNat)) := by simp [State.srcByte, hin]
      have hlook : ∃ m, lookedAt (s.src.read (s.srcCursor.toNat + s.lane.toNat) :: nextChars k (s.laneLoaded 0#5)) =
          m + 1 := by
        cases hv : valueOf (s.src.read (s.srcCursor.toNat + s.lane.toNat)) with
        | none => exact ⟨0, lookedAt_cons_of_none hv _⟩
        | some x => exact ⟨_, lookedAt_cons_of_value hv _⟩
      obtain ⟨m, hm⟩ := hlook
      simp [loadLanes, hfault, hm, readable_succ, hin]

/-- The lanes of a quantum of these characters; an absent lane is 0 (42 R130). -/
def lanesOf (cs : List Byte) : Vector Sym 8 := Vector.ofFn fun j : Fin 8 => (cs[j.val]?.bind valueOf).getD 0#5

/-- A loop that meets a bad character raises there, whatever it has loaded before. -/
theorem loadAll_of_bad {cs : List Byte} {s : State} {j : Nat} (hj : firstBad cs = some j)
    (hk : s.lane.toNat + cs.length ≤ 8) :
    (loadAll cs s).phase = .error ∧ (loadAll cs s).stepEnded =
      (s.raised .invalidCharacter (s.srcCursor + BitVec.ofNat 32 (s.lane.toNat + j))).stepEnded := by
  induction cs generalizing s j with
  | nil => simp [firstBad] at hj
  | cons c cs ih =>
    rw [List.length_cons] at hk
    cases hv : valueOf c with
    | none =>
      obtain rfl : 0 = j := by simpa [firstBad_cons_of_none hv] using hj
      have hpos : s.lane.setWidth 32 = BitVec.ofNat 32 (s.lane.toNat + 0) := by apply BitVec.eq_of_toNat_eq; simp
      rw [loadAll, hv, hpos]
      exact ⟨rfl, rfl⟩
    | some x =>
      obtain ⟨i, hi, rfl⟩ : ∃ i, firstBad cs = some i ∧ i + 1 = j := by
        simpa [firstBad_cons_of_value hv] using hj
      have hne : 0 < cs.length := by cases cs with
        | nil => simp [firstBad] at hi
        | cons => simp
      have hlane := toNat_lane_succ (l := s.lane) (by omega)
      obtain ⟨hphase, hend⟩ := ih (s := s.laneLoaded x) hi (by simp [hlane]; omega)
      rw [loadAll, hv]
      refine ⟨hphase, hend.trans ?_⟩
      rw [laneLoaded_lane, laneLoaded_srcCursor, hlane, Nat.add_assoc, Nat.add_comm 1 i]
      rfl

/-- A loop without a bad character changes V and `j` only, and puts the value of character `i` in lane `lane + i`. -/
theorem loadAll_of_good {cs : List Byte} {s : State} (hgood : firstBad cs = none) (hk : s.lane.toNat + cs.length ≤ 8) :
    ∃ v l, loadAll cs s = { s with v := v, lane := l } ∧
      (∀ i (hi : i < cs.length), valueOf cs[i] = some (v[s.lane.toNat + i])) ∧
      ∀ i (hi : i < s.lane.toNat), v[i] = s.v[i] := by
  induction cs generalizing s with
  | nil => exact ⟨s.v, s.lane, rfl, by simp, fun _ _ => rfl⟩
  | cons c cs ih =>
    rw [List.length_cons] at hk
    cases hv : valueOf c with
    | none => simp [firstBad_cons_of_none hv] at hgood
    | some x =>
      rw [firstBad_cons_of_value hv, Option.map_eq_none_iff] at hgood
      rw [loadAll, hv]
      rcases Nat.eq_zero_or_pos cs.length with hnil | hpos
      · obtain rfl := List.length_eq_zero_iff.mp hnil
        refine ⟨_, _, rfl, fun i hi => ?_, fun i hi => ?_⟩
        · obtain rfl : i = 0 := by simpa using hi
          simpa using hv
        · simp [hi.ne']
      · have hlane := toNat_lane_succ (l := s.lane) (by omega)
        obtain ⟨v, l, hload, hval, hlow⟩ := ih (s := s.laneLoaded x) hgood (by simp [hlane]; omega)
        simp only [laneLoaded_lane, laneLoaded_v, hlane] at hval hlow
        refine ⟨v, l, hload, fun i hi => ?_, fun i hi => ?_⟩
        · cases i with
          | zero => simpa [hlow s.lane.toNat (by omega)] using hv
          | succ i =>
            have hi' := hval i (by simpa using hi)
            simpa only [Nat.add_assoc, Nat.add_comm 1 i, List.getElem_cons_succ] using hi'
        · rw [hlow i (by omega)]
          simp [hi.ne']

/-! ### The UNPACK step -/

/-- A quantum length that runs has a row, which stores the bytes of the quantum (30 R64, 42 R140). -/
theorem execQuantum_next {n : Nat} {s t : State} :
    execQuantum n s = .next t ↔ n ∈ [8, 7, 5, 4, 2] ∧ storeBytes (quantumBytes n s.v) s = .next t := by
  by_cases hn : n ∈ [8, 7, 5, 4, 2]
  · simp only [hn, true_and]
    simp only [List.mem_cons, List.not_mem_nil, or_false] at hn
    rcases hn with rfl | rfl | rfl | rfl | rfl <;> rfl
  · simp only [hn, false_and, iff_false]
    simp only [List.mem_cons, List.not_mem_nil, or_false, not_or] at hn
    obtain ⟨h8, h7, h5, h4, h2⟩ := hn
    simp [execQuantum]

/-- `m(n)` is the whole bytes in 5 bits per character (42 R130). -/
theorem bytesOut_of_mem {n : Nat} (h : n ∈ [8, 7, 5, 4, 2]) : bytesOut n = 5 * n / 8 := by
  simp only [List.mem_cons, List.not_mem_nil, or_false] at h
  rcases h with rfl | rfl | rfl | rfl | rfl <;> rfl

/-- The bytes of a quantum depend on its first `n` lanes only (42 R130). -/
theorem quantumBytes_congr {n : Nat} {v w : Vector Sym 8} (h : ∀ j : Fin 8, j.val < n → v[j] = w[j]) :
    quantumBytes n v = quantumBytes n w := by
  have hlane (j : Fin 8) : laneOf n v j = laneOf n w j := by
    unfold laneOf
    split
    · exact h j ‹_›
    · rfl
  simp only [quantumBytes, quantumWord, hlane]

@[simp] theorem length_quantumChars (s : State) : (quantumChars s).length = s.quantumLength := by simp [quantumChars]

theorem quantumLength_le (s : State) : s.quantumLength ≤ 8 := Nat.min_le_left ..

/-- The bytes an UNPACK step emits for the characters of its quantum. -/
def emitted (s : State) : List Byte := quantumBytes s.quantumLength (lanesOf (quantumChars s))

/-- The state after an UNPACK step on a quantum of acceptable characters, but for what a step leaves unspecified. -/
def unpacked (s : State) : State :=
  { s with dst := s.dst.writeRun s.dstCursor.toNat (emitted s) }.advanced s.quantumLength

/-- The bytes of the quantum have an unpack operation and a place in DST. -/
def Storable (s : State) : Prop :=
  s.quantumLength ∈ [8, 7, 5, 4, 2] ∧ s.dstCursor.toNat + 5 * s.quantumLength / 8 ≤ s.cfg.dstCap.toNat

/-- The character loop of an UNPACK step runs over the characters of its quantum. -/
theorem loadLanes_quantum {s t : State} (hp : s.phase = .unpack) :
    loadLanes s.quantumLength { s with lane := 0#3 } = .next t ↔
      Readable s s.srcCursor.toNat (lookedAt (quantumChars s)) ∧
        t = loadAll (quantumChars s) { s with lane := 0#3 } :=
  loadLanes_next (s := { s with lane := 0#3 }) hp (by simpa using quantumLength_le s)

/-- A quantum with a bad character raises there. -/
theorem unpackQuantum_of_bad {s t : State} {j : Nat} (hp : s.phase = .unpack)
    (hj : firstBad (quantumChars s) = some j) :
    endStep (unpackQuantum s) = .next t ↔
      Readable s s.srcCursor.toNat (j + 1) ∧
        t = (s.raised .invalidCharacter (s.srcCursor + BitVec.ofNat 32 j)).stepEnded := by
  obtain ⟨herr, hend⟩ := loadAll_of_bad (s := { s with lane := 0#3 }) hj (by simpa using quantumLength_le s)
  have hend : (loadAll (quantumChars s) { s with lane := 0#3 }).stepEnded =
      (s.raised .invalidCharacter (s.srcCursor + BitVec.ofNat 32 j)).stepEnded :=
    hend.trans (by simp only [BitVec.toNat_ofNat, Nat.zero_mod, Nat.zero_add]; rfl)
  have hlook : lookedAt (quantumChars s) = j + 1 := by simp [lookedAt, hj]
  rw [endStep_next, ← hend, ← hlook]
  simp only [unpackQuantum, andThen_next, loadLanes_quantum hp]
  constructor
  · rintro ⟨u, ⟨⟨hread, rfl⟩, -⟩ | ⟨w, ⟨-, rfl⟩, hw, -⟩, rfl⟩
    · exact ⟨hread, rfl⟩
    · exact absurd herr hw
  · rintro ⟨hread, rfl⟩
    exact ⟨_, .inl ⟨⟨hread, rfl⟩, herr⟩, rfl⟩

/-- A quantum of acceptable characters is unpacked whole. -/
theorem unpackQuantum_of_good {s t : State} (hp : s.phase = .unpack) (hgood : firstBad (quantumChars s) = none) :
    endStep (unpackQuantum s) = .next t ↔
      Readable s s.srcCursor.toNat s.quantumLength ∧ Storable s ∧ t = (unpacked s).stepEnded := by
  obtain ⟨v, l, hload, hval, -⟩ :=
    loadAll_of_good (s := { s with lane := 0#3 }) hgood (by simpa using quantumLength_le s)
  have hlook : lookedAt (quantumChars s) = s.quantumLength := by simp [lookedAt, hgood]
  have hbytes : quantumBytes s.quantumLength v = emitted s := by
    refine quantumBytes_congr fun j hj => ?_
    have hj' := hval j (by simpa using hj)
    simp only [BitVec.toNat_ofNat, Nat.zero_mod, Nat.zero_add] at hj'
    simp [lanesOf, hj, hj']
  have hstore (u : State) : execQuantum s.quantumLength (loadAll (quantumChars s) { s with lane := 0#3 }) = .next u ↔
      Storable s ∧ u = { s with v := v, lane := l, dst := s.dst.writeRun s.dstCursor.toNat (emitted s) } := by
    rw [hload, execQuantum_next, storeBytes_next]
    simp only [hbytes, Storable, and_assoc]
    refine and_congr_right fun hmem => ?_
    rw [emitted, length_quantumBytes, bytesOut_of_mem hmem]
  have hphase : (loadAll (quantumChars s) { s with lane := 0#3 }).phase ≠ .error := by
    rw [hload]
    simp [hp]
  rw [endStep_next, ← hlook]
  simp only [unpackQuantum, andThen_next, loadLanes_quantum hp]
  constructor
  · rintro ⟨u, ⟨⟨-, rfl⟩, herr⟩ | ⟨w, ⟨hread, rfl⟩, -, ⟨hu, herr⟩ | ⟨x, hx, -, hu⟩⟩, rfl⟩
    · exact absurd herr hphase
    · rw [((hstore u).mp hu).2] at herr; simp [hp] at herr
    · obtain ⟨hfits, rfl⟩ := (hstore x).mp hx
      cases hu
      exact ⟨hread, hfits, rfl⟩
  · rintro ⟨hread, hfits, rfl⟩
    have hstored := (hstore _).mpr ⟨hfits, rfl⟩
    exact ⟨_, .inr ⟨_, ⟨hread, rfl⟩, hphase, .inr ⟨_, hstored, by simp [hp], rfl⟩⟩, rfl⟩

theorem execStepUnpack_end {s : State} (hp : s.phase = .unpack) (hend : s.srcCursor = s.contentLen) :
    execStepUnpack s = .next { s with phase := .done } := by
  simp [execStepUnpack, execStepDone, ifSelected, hp, hend]

theorem execStepUnpack_quantum {s : State} (hp : s.phase = .unpack) (hend : s.srcCursor ≠ s.contentLen) :
    execStepUnpack s = endStep (unpackQuantum s) := by
  simp [execStepUnpack, ifSelected, hp, hend]

/-! ### One step of the block -/

/-- The byte the scan looks at next is a byte of the input and of SRC (43 R156). -/
structure Scannable (s : State) : Prop where
  phase : s.phase = .scan
  left : s.scanIdx ≠ 0#32
  inInput : s.scanIdx.toNat ≤ s.srcLen.toNat
  inSrc : s.scanIdx.toNat ≤ s.cfg.srcCap.toNat

/-- The next states of the block's own step (43 R154 to R161), each with what it asks of the state. -/
inductive BlockEffect (s : State) : State → Prop
  | rest (h : s.busy = false) : BlockEffect s s
  | scanAll (h : s.phase = .scan) (h0 : s.scanIdx = 0#32) : BlockEffect s s.scanEnded
  | scanPad (h : Scannable s) (hc : s.src.read (s.scanIdx.toNat - 1) = 0x3D#8) : BlockEffect s s.padScanned
  | scanLf (h : Scannable s) (hc : s.src.read (s.scanIdx.toNat - 1) = 0x0A#8) : BlockEffect s s.lfScanned
  | scanEnd (h : Scannable s) (hc : isTrailerByte (s.src.read (s.scanIdx.toNat - 1)) = false) :
      BlockEffect s s.scanEnded
  | badLength (h : s.phase = .geom) (hsize : decodedSize? s.scanIdx.toNat = none) :
      BlockEffect s ((measured s).raised .invalidTrailingQuantumLength 0#32).stepEnded
  | noRoom (size : Nat) (h : s.phase = .geom) (hsize : decodedSize? s.scanIdx.toNat = some size)
      (hcap : s.cfg.dstCap.toNat < size) : BlockEffect s ((measured s).raised .allocationFailure 0#32).stepEnded
  | allocate (size : Nat) (h : s.phase = .geom) (hsize : decodedSize? s.scanIdx.toNat = some size)
      (hcap : size ≤ s.cfg.dstCap.toNat) : BlockEffect s (allocated size s).stepEnded
  | badCharacter (j : Nat) (h : s.phase = .unpack) (hmore : s.srcCursor ≠ s.contentLen)
      (hbad : firstBad (quantumChars s) = some j) (hread : Readable s s.srcCursor.toNat (j + 1)) :
      BlockEffect s (s.raised .invalidCharacter (s.srcCursor + BitVec.ofNat 32 j)).stepEnded
  | quantum (h : s.phase = .unpack) (hmore : s.srcCursor ≠ s.contentLen) (hgood : firstBad (quantumChars s) = none)
      (hread : Readable s s.srcCursor.toNat s.quantumLength) (hfits : Storable s) :
      BlockEffect s (unpacked s).stepEnded
  | finish (h : s.phase = .unpack) (hend : s.srcCursor = s.contentLen) : BlockEffect s { s with phase := .done }

theorem symbolOf_pad : symbolOf 0x3D#8 = .pad := rfl
theorem symbolOf_lf : symbolOf 0x0A#8 = .lf := rfl

/-- The scan takes exactly `=` and LF for trailer bytes (40 R80). -/
theorem scanSymbol_of_not_trailer {c : Byte} (hc : isTrailerByte c = false) (s : State) :
    scanSymbol (symbolOf c) s = s.scanEnded := by
  simp only [isTrailerByte, Bool.or_eq_false_iff, beq_eq_false_iff_ne] at hc
  obtain ⟨hpad, hlf⟩ := hc
  unfold symbolOf
  split_ifs <;> simp [scanSymbol, Symbol.cls]

theorem blockStep_scannable {s : State} (h : Scannable s) :
    blockStep s = .next (scanSymbol (symbolOf (s.src.read (s.scanIdx.toNat - 1))) s) := by
  obtain ⟨hp, hleft, hin, hsrc⟩ := h
  have hpos : s.scanIdx.toNat ≠ 0 := fun h0 => hleft (BitVec.eq_of_toNat_eq h0)
  rw [blockStep_scan hp, if_neg hleft, srcByte_ok (by omega) (by omega)]

/-- Every effect is the block's step. -/
theorem BlockEffect.runs {s t : State} (h : BlockEffect s t) : blockStep s = .next t := by
  cases h with
  | rest h => exact blockStep_rest h
  | scanAll h h0 => rw [blockStep_scan h, if_pos h0]
  | scanPad h hc => rw [blockStep_scannable h, hc, symbolOf_pad]; simp [scanSymbol, h.left, Symbol.cls]
  | scanLf h hc => rw [blockStep_scannable h, hc, symbolOf_lf]; simp [scanSymbol, h.left, Symbol.cls]
  | scanEnd h hc => rw [blockStep_scannable h, scanSymbol_of_not_trailer hc]
  | badLength h hsize => rw [blockStep_geom h, execStepGeom_badLength h hsize]
  | noRoom size h hsize hcap => rw [blockStep_geom h, execStepGeom_size h hsize, if_pos hcap]
  | allocate size h hsize hcap => rw [blockStep_geom h, execStepGeom_size h hsize, if_neg (by omega)]
  | badCharacter j h hmore hbad hread =>
    rw [blockStep_unpack h, execStepUnpack_quantum h hmore, unpackQuantum_of_bad h hbad]
    exact ⟨hread, rfl⟩
  | quantum h hmore hgood hread hfits =>
    rw [blockStep_unpack h, execStepUnpack_quantum h hmore, unpackQuantum_of_good h hgood]
    exact ⟨hread, hfits, rfl⟩
  | finish h hend => rw [blockStep_unpack h, execStepUnpack_end h hend]

/-- The SCAN step has an effect for each kind of byte, and a next state only where it may look at one. -/
theorem blockEffect_scan {s t : State} (hp : s.phase = .scan) (h : blockStep s = .next t) : BlockEffect s t := by
  by_cases h0 : s.scanIdx = 0#32
  · rw [blockStep_scan hp, if_pos h0] at h
    cases h
    exact .scanAll hp h0
  · have hscan : Scannable s := by
      rw [blockStep_scan hp, if_neg h0] at h
      cases hc : s.srcByte (s.scanIdx.toNat - 1) with
      | error f => simp [hc] at h
      | ok c =>
        obtain ⟨⟨hin, hsrc⟩, -⟩ := srcByte_eq_ok.mp hc
        exact ⟨hp, h0, by omega, by omega⟩
    have heffect : ∃ u, BlockEffect s u := by
      by_cases hpad : s.src.read (s.scanIdx.toNat - 1) = 0x3D#8
      · exact ⟨_, .scanPad hscan hpad⟩
      · by_cases hlf : s.src.read (s.scanIdx.toNat - 1) = 0x0A#8
        · exact ⟨_, .scanLf hscan hlf⟩
        · exact ⟨_, .scanEnd hscan (by simp [isTrailerByte, hpad, hlf])⟩
    obtain ⟨u, hu⟩ := heffect
    cases hu.runs.symm.trans h
    exact hu

theorem blockEffect_geom {s t : State} (hp : s.phase = .geom) (h : blockStep s = .next t) : BlockEffect s t := by
  have heffect : ∃ u, BlockEffect s u := by
    cases hsize : decodedSize? s.scanIdx.toNat with
    | none => exact ⟨_, .badLength hp hsize⟩
    | some size =>
      rcases Nat.lt_or_ge s.cfg.dstCap.toNat size with hcap | hcap
      · exact ⟨_, .noRoom size hp hsize hcap⟩
      · exact ⟨_, .allocate size hp hsize hcap⟩
  obtain ⟨u, hu⟩ := heffect
  cases hu.runs.symm.trans h
  exact hu

theorem blockEffect_unpack {s t : State} (hp : s.phase = .unpack) (h : blockStep s = .next t) : BlockEffect s t := by
  rw [blockStep_unpack hp] at h
  by_cases hend : s.srcCursor = s.contentLen
  · rw [execStepUnpack_end hp hend] at h
    cases h
    exact .finish hp hend
  · rw [execStepUnpack_quantum hp hend] at h
    cases hbad : firstBad (quantumChars s) with
    | none =>
      obtain ⟨hread, hfits, rfl⟩ := (unpackQuantum_of_good hp hbad).mp h
      exact .quantum hp hend hbad hread hfits
    | some j =>
      obtain ⟨hread, rfl⟩ := (unpackQuantum_of_bad hp hbad).mp h
      exact .badCharacter j hp hend hbad hread

/-- The block's step, case by case. -/
theorem blockStep_next {s t : State} : blockStep s = .next t ↔ BlockEffect s t := by
  refine ⟨fun h => ?_, BlockEffect.runs⟩
  cases hbusy : s.busy with
  | false =>
    rw [blockStep_rest hbusy] at h
    cases h
    exact .rest hbusy
  | true =>
    rcases (busy_iff s).mp hbusy with hp | hp | hp
    · exact blockEffect_scan hp h
    · exact blockEffect_geom hp h
    · exact blockEffect_unpack hp h

end Sys2Proof.Laws
end

section
/-! PROOFS. What one access of the host and one step of the machine can do, and the statements of the family 10_state.md
that follow from it at once. -/

namespace Sys2Proof.Laws

open Sys2Proof.Machine Sys2Proof.Safety Sys2Proof.Claims

/-! ### One access of the host -/

theorem decode_ctrl32_reserved {word : BitVec 32} (hstart : word ≠ 1#32) (hclear : word ≠ 2#32) :
    decode (.ctrl32 word) = .error (.reservedCommand word) := by
  have h1 : word.toNat ≠ 1 := fun h => hstart (BitVec.eq_of_toNat_eq h)
  have h2 : word.toNat ≠ 2 := fun h => hclear (BitVec.eq_of_toNat_eq h)
  simp [decode, decodeCtrl32]

/-- Register `n` is at byte offset `4 * n` (10 R16). -/
theorem atOffset_four_mul (n : Nat) (access : Nat → State → Host.Outcome State Fault Refusal) (s : State) :
    atOffset (4 * n) access s = access n s := by
  simp [atOffset, regAtOffset]

/-- A write of register `n`, by number or by byte offset. -/
theorem step_writeReg {s : State} {n : Nat} {value : BitVec 32} {rest : List HostAction}
    (h : s.inputs = .writeReg n value :: rest ∨ s.inputs = .writeBus (4 * n) value :: rest) :
    step s = writeReg n value { s with inputs := rest } := by
  rcases h with h | h
  · exact step_pending h
  · exact (step_pending h).trans (atOffset_four_mul n _ _)

/-- A read of register `n`, by number or by byte offset. -/
theorem step_readReg {s : State} {n : Nat} {rest : List HostAction}
    (h : s.inputs = .readReg n :: rest ∨ s.inputs = .readBus (4 * n) :: rest) :
    step s = readReg n { s with inputs := rest } := by
  rcases h with h | h
  · exact step_pending h
  · exact (step_pending h).trans (atOffset_four_mul n _ _)

theorem readReg_of_known {s : State} {n : Nat} (h : s.readsFree n = false) :
    readReg n s = .next { s with busData := s.regValue n } := by
  simp [readReg, h]

theorem readReg_of_free {s : State} {n : Nat} (h : s.readsFree n = true) :
    readReg n s = .next
      { s with busData := lowBits (regWidth n) (Config.freeWord s.draws), draws := s.draws + 1 } := by
  simp [readReg, h]

theorem regValue_beyond (s : State) {n : Nat} (h : 12 < n) : s.regValue n = 0#32 := by
  unfold State.regValue
  split
  case h_13 => rfl
  all_goals omega

/-- The low bits of a word are below a power of two, and its remainder (10 R28). -/
theorem toNat_lowBits {width : Nat} (hw : width ≤ 32) (x : Word) :
    (lowBits width x).toNat < 2 ^ width ∧ (lowBits width x).toNat = x.toNat % 2 ^ width := by
  have h : (lowBits width x).toNat = x.toNat % 2 ^ width := by
    rw [lowBits, BitVec.toNat_setWidth_of_le hw, BitVec.toNat_setWidth]
  exact ⟨h ▸ Nat.mod_lt _ (by positivity), h⟩

/-- The registers of 32 bits among those that read as free values while BUSY. -/
theorem regWidth_of_wide {n : Nat} (hlo : 2 ≤ n) (hhi : n ≤ 12) (h2 : n ≠ 2) (h10 : n ≠ 10) :
    regWidth n = 32 := by
  unfold regWidth
  split
  case h_4 => exact if_pos hhi
  all_goals omega

/-- While BUSY the registers 2 to 12 read as free values (10 R28). -/
theorem readsFree_of_busy {s : State} {n : Nat} (h : s.busy = true) : s.readsFree n = true ↔ 2 ≤ n ∧ n ≤ 12 := by
  simp only [State.readsFree, h, Bool.true_and, Bool.and_eq_true, decide_eq_true_eq]
  omega

/-- While BUSY the bits DONE and ERR of STATUS are 0 (10 R15, R18). -/
theorem status_of_busy {s : State} (h : s.busy = true) : s.regValue 1 = 1#32 := by
  rcases (busy_iff s).mp h with hp | hp | hp <;>
    simp [State.regValue, State.status, State.busy, State.done, State.err, hp]

/-- The next states of a host access (10 R16, 43 R170), each with what it asks of the state. An access without an effect
leaves what the bus holds. -/
inductive HostEffect (s : State) : State → Prop
  | start (h : s.busy = false) (hfits : s.srcLen.toNat ≤ s.cfg.srcCap.toNat) : HostEffect s s.started
  | clear (h : s.busy = false) : HostEffect s s.cleared
  | length (h : s.busy = false) (n : Word) : HostEffect s { s with srcLen := n }
  | src (h : s.busy = false) (i : Nat) (b : Byte) (hi : i < s.cfg.srcCap.toNat) :
      HostEffect s { s with src := s.src.write i b }
  | dst (h : s.busy = false) (i : Nat) (b : Byte) (hi : i < s.cfg.dstCap.toNat) :
      HostEffect s { s with dst := s.dst.write i b }
  | bus (x : BitVec 32) (draws : Nat) : HostEffect s { s with busData := x, draws := draws }
  | reset : HostEffect s s.resetApplied

theorem HostEffect.idle (s : State) : HostEffect s s := .bus s.busData s.draws

theorem execCmdStart_next {s t : State} (h : execCmdStart s = .next t) : HostEffect s t := by
  unfold execCmdStart at h
  split at h
  · cases h; exact .idle s
  · split at h
    · cases h
    · cases h; exact .start (by simp_all) (by omega)

theorem execCmdClear_next {s t : State} (h : execCmdClear s = .next t) : HostEffect s t := by
  unfold execCmdClear at h
  split at h
  · cases h; exact .idle s
  · cases h; exact .clear (by simp_all)

theorem writeCtrl_next {word : BitVec 32} {s t : State} (h : writeCtrl word s = .next t) : HostEffect s t := by
  by_cases hstart : word = 1#32
  · subst hstart
    exact execCmdStart_next h
  · by_cases hclear : word = 2#32
    · subst hclear
      exact execCmdClear_next h
    · rw [writeCtrl, decode_ctrl32_reserved hstart hclear] at h
      cases h
      exact .idle s

theorem writeReg_next {n : Nat} {value : BitVec 32} {s t : State} (h : writeReg n value s = .next t) :
    HostEffect s t := by
  unfold writeReg at h
  split at h
  · exact writeCtrl_next h
  · split at h
    · cases h; exact .length (by simp_all) value
    · cases h; exact .idle s

theorem readReg_next {n : Nat} {s t : State} (h : readReg n s = .next t) : HostEffect s t := by
  unfold readReg at h
  split at h <;> cases h
  · exact .bus _ _
  · exact .bus _ s.draws

theorem atOffset_next {offset : Nat} {access : Nat → State → Host.Outcome State Fault Refusal} {s t : State}
    (h : atOffset offset access s = .next t) : ∃ n, access n s = .next t := by
  unfold atOffset at h
  split at h
  · exact ⟨_, h⟩
  · cases h

theorem writeSrc_next {i : Nat} {b : Byte} {s t : State} (h : writeSrc i b s = .next t) : HostEffect s t := by
  unfold writeSrc at h
  split at h
  · cases h
  · split at h
    · cases h; exact .src (by simp_all) i b ‹_›
    · cases h

theorem writeDst_next {i : Nat} {b : Byte} {s t : State} (h : writeDst i b s = .next t) : HostEffect s t := by
  unfold writeDst at h
  split at h
  · cases h
  · split at h
    · cases h; exact .dst (by simp_all) i b ‹_›
    · cases h

theorem readDst_next {i : Nat} {s t : State} (h : readDst i s = .next t) : HostEffect s t := by
  unfold readDst at h
  split at h
  · cases h
  · split at h <;> cases h
    · exact .bus _ _
    · exact .bus _ s.draws

/-- A slot of the host's schedule is a step of the block or an access. -/
theorem hostStep_next {a : HostAction} {s t : State} (h : hostStep a s = .next t) :
    (a = .wait ∧ BlockEffect s t) ∨ HostEffect s t := by
  cases a with
  | wait => exact .inl ⟨rfl, blockStep_next.mp h⟩
  | writeReg n value => exact .inr (writeReg_next h)
  | readReg n => exact .inr (readReg_next h)
  | writeBus offset value => obtain ⟨n, hn⟩ := atOffset_next h; exact .inr (writeReg_next hn)
  | readBus offset => obtain ⟨n, hn⟩ := atOffset_next h; exact .inr (readReg_next hn)
  | writeSrc i b => exact .inr (writeSrc_next h)
  | writeDst i b => exact .inr (writeDst_next h)
  | readDst i => exact .inr (readDst_next h)
  | reset => cases h; exact .inr .reset

/-- A step of the machine is a step of the block or an access of the host, on the state without the action it takes. -/
theorem step_next {s t : State} (h : step s = .next t) :
    ∃ rest, BlockEffect { s with inputs := rest } t ∨ HostEffect { s with inputs := rest } t := by
  cases hin : s.inputs with
  | nil => exact ⟨s.inputs, .inl (blockStep_next.mp ((step_alone hin).symm.trans h))⟩
  | cons a rest => exact ⟨rest, (hostStep_next ((step_pending hin).symm.trans h)).imp_left And.right⟩

theorem step_of_blockMoves {s t : State} (hmoves : BlockMoves s) (h : step s = .next t) :
    ∃ rest, BlockEffect { s with inputs := rest } t := by
  rcases hmoves with hin | ⟨rest, hin⟩
  · exact ⟨s.inputs, blockStep_next.mp ((step_alone hin).symm.trans h)⟩
  · exact ⟨rest, blockStep_next.mp ((step_pending hin).symm.trans h)⟩

/-! ### What the block leaves alone -/

/-- The fields no step of the block writes. -/
structure BlockFrame (s t : State) : Prop where
  cfg : t.cfg = s.cfg
  src : t.src = s.src
  srcLen : t.srcLen = s.srcLen
  inputs : t.inputs = s.inputs

theorem BlockEffect.frame {s t : State} (h : BlockEffect s t) : BlockFrame s t := by
  cases h <;> exact ⟨rfl, rfl, rfl, rfl⟩

/-- Outside UNPACK the block writes DST on an error only. -/
theorem BlockEffect.dst {s t : State} (h : BlockEffect s t) (hp : s.phase ≠ .unpack) (herr : t.phase ≠ .error) :
    t.dst = s.dst := by
  cases h with
  | badCharacter j h | quantum h | finish h => exact absurd h hp
  | badLength | noRoom => exact absurd rfl herr
  | rest | scanAll | scanPad | scanLf | scanEnd | allocate => rfl

theorem HostEffect.cfg {s t : State} (h : HostEffect s t) : t.cfg = s.cfg := by
  cases h <;> rfl

end Sys2Proof.Laws

namespace Sys2Proof.Proofs

open Sys2Proof.Machine Sys2Proof.Laws

/-- Settles O43: no effect of the block writes the input, and only those of UNPACK and the errors write DST. -/
theorem blockLeavesTheInputAlone : Obligations.BlockLeavesTheInputAlone := by
  intro s t hmoves hstep
  obtain ⟨rest, heffect⟩ := step_of_blockMoves hmoves hstep
  obtain ⟨hcfg, hsrc, hlen, -⟩ := heffect.frame
  exact ⟨hsrc, hlen, hcfg, heffect.dst⟩

/-- Settles O46: neither an effect of the block nor one of the host writes the parameters. -/
theorem noStepChangesTheCapacities : Obligations.NoStepChangesTheCapacities := by
  intro s t hstep
  obtain ⟨rest, hblock | hhost⟩ := step_next hstep
  · exact hblock.frame.cfg
  · exact hhost.cfg

/-- Settles O27: the command compares SRC_LEN with SRC_CAP before it starts. -/
theorem startBeyondCapacityIsRefused : Obligations.StartBeyondCapacityIsRefused := by
  intro s hrest hover
  simp [exec, execCmdStart, hrest, hover]

/-- Settles O28: the two command words are those the decoder accepts, and a reserved word runs nothing. -/
theorem ctrlWritesRunTheDecodedCommand : Obligations.CtrlWritesRunTheDecodedCommand := by
  intro s word rest hin
  have hstep : step s = writeCtrl word { s with inputs := rest } := step_writeReg (n := 0) hin
  refine ⟨fun i hi => ?_, ?_, ?_, fun hstart hclear => ?_⟩
  · rw [hstep, writeCtrl, hi]
  · rintro rfl
    exact hstep
  · rintro rfl
    exact hstep
  · rw [hstep, writeCtrl, decode_ctrl32_reserved hstart hclear]

/-- Settles O34: a write reaches SRC_LEN at rest and nothing else. -/
theorem registerWritesReachOnlySrcLen : Obligations.RegisterWritesReachOnlySrcLen := by
  intro s n value rest hn hin
  have hbusy : ({ s with inputs := rest } : State).busy = s.busy := rfl
  rw [step_writeReg hin, writeReg, if_neg hn, hbusy]
  refine ⟨fun h4 hrest => if_pos ⟨h4, hrest⟩, fun h => if_neg ?_⟩
  rintro ⟨h4, hrest⟩
  rcases h with h | h
  · exact h h4
  · simp [h] at hrest

/-- Settles O37: every field of the reset state is written out, and both buffers list no byte. -/
theorem resetStateIsIdleAndZero : Obligations.ResetStateIsIdleAndZero :=
  ⟨rfl, rfl, rfl, rfl, rfl, rfl, rfl, rfl, rfl, rfl, rfl, rfl, rfl, fun _ => ⟨rfl, rfl⟩⟩

/-- Settles O32: at rest no read is free, so each register gives its current value. -/
theorem registersReadBackAtRest : Obligations.RegistersReadBackAtRest := by
  intro s n rest hrest hin
  have hknown : ({ s with inputs := rest } : State).readsFree n = false := by
    have : ({ s with inputs := rest } : State).busy = false := hrest
    simp [State.readsFree, this]
  refine ⟨s.regValue n, (step_readReg hin).trans (readReg_of_known hknown), ?_⟩
  refine ⟨?_, ?_, ?_, ?_, ?_, ?_, ?_, ?_, ?_, ?_, ?_, ?_, ?_, regValue_beyond s⟩ <;> rintro rfl
  -- STATUS, ERR_CODE and TRAILING_LEN are narrower than the bus.
  case refine_2 => exact BitVec.toNat_setWidth_of_le (by decide)
  case refine_3 =>
    refine ⟨?_, ?_, ?_, ?_⟩ <;> intro he <;> simp [State.regValue, he, ErrCode.code]
  case refine_11 => exact BitVec.toNat_setWidth_of_le (by decide)
  all_goals rfl

/-- Settles O33: a read of register 2 to 12 is free while BUSY, of width 2, 3 or 32. -/
theorem busyReadsReturnAnyValueOfTheWidth : Obligations.BusyReadsReturnAnyValueOfTheWidth := by
  intro s n rest hbusy hin
  have hreads : ({ s with inputs := rest } : State).readsFree n = true ↔ 2 ≤ n ∧ n ≤ 12 :=
    readsFree_of_busy hbusy
  rw [step_readReg hin]
  refine ⟨?_, fun hn => ?_, fun hlo hhi => ?_⟩
  · rintro rfl
    rw [readReg_of_known (by simpa using hreads), ← status_of_busy hbusy]
    rfl
  · rw [readReg_of_known (by rw [← Bool.not_eq_true, hreads]; omega)]
    rcases hn with rfl | hn
    · rfl
    · rw [regValue_beyond _ hn]
  · refine ⟨_, readReg_of_free (hreads.mpr ⟨hlo, hhi⟩), ?_, ?_, fun h2 h10 => ?_⟩
    · rintro rfl
      exact toNat_lowBits (width := 2) (by decide) _
    · rintro rfl
      exact toNat_lowBits (width := 3) (by decide) _
    · rw [regWidth_of_wide hlo hhi h2 h10]
      exact BitVec.setWidth_eq ..

/-- Settles O31: STATUS by the six phases. -/
theorem statusFollowsThePhase : Obligations.StatusFollowsThePhase := by
  intro s
  refine ⟨?_, ?_, ?_, ?_, ?_, ?_, ?_, ?_, fun hbusy rest hin => ?_⟩
  case refine_9 =>
    rw [step_readReg (.inl hin), readReg_of_known (by simp [State.readsFree]), ← status_of_busy hbusy]
    rfl
  all_goals cases hp : s.phase <;> simp [State.status, State.busy, State.done, State.err, hp]

end Sys2Proof.Proofs
end

section
/-! PROOFS. The invariant, in two parts that every step keeps: what holds of buffers and registers in every phase, and the
facts of the phase the block is in. -/

namespace Sys2Proof.Laws

open Sys2Proof.Machine Sys2Proof.Safety Sys2Proof.Claims

/-! ### What holds in every phase -/

/-- The part of the invariant that does not speak of the progress of a transaction. -/
structure RegisterInv (s : State) : Prop where
  srcWf : s.src.wf = true
  dstWf : s.dst.wf = true
  srcWithin : s.src.within s.cfg.srcCap.toNat = true
  dstWithin : s.dst.within s.cfg.dstCap.toNat = true
  errRecorded : s.errCode = .none ↔ s.phase ≠ .error
  posOnlyForCharacter : s.errPos ≠ 0#32 → s.errCode = .invalidCharacter
  noOutputOnError : s.phase = .error → s.dstLen = 0#32
  outputFits : s.dstLen.toNat ≤ s.cfg.dstCap.toNat
  quanta : s.fullQuanta.toNat = s.contentLen.toNat / 8
  trailing : s.trailingLen.toNat = s.contentLen.toNat % 8
  inputFits : s.busy = true → s.srcLen.toNat ≤ s.cfg.srcCap.toNat
  laneEmpty : s.lane = 0#3
  sizeEmpty : s.size = 0

/-- The facts of the phase the block is in. -/
def PhaseFacts (s : State) : Prop :=
  match s.phase with
  | .scan => ScanInv s
  | .geom => GeomInv s
  | .unpack => UnpackInv s
  | .done => DoneInv s
  | .idle | .error => True

theorem phaseFacts_scan {s : State} (h : s.phase = .scan) : PhaseFacts s ↔ ScanInv s := by simp [PhaseFacts, h]
theorem phaseFacts_geom {s : State} (h : s.phase = .geom) : PhaseFacts s ↔ GeomInv s := by simp [PhaseFacts, h]
theorem phaseFacts_unpack {s : State} (h : s.phase = .unpack) : PhaseFacts s ↔ UnpackInv s := by simp [PhaseFacts, h]
theorem phaseFacts_done {s : State} (h : s.phase = .done) : PhaseFacts s ↔ DoneInv s := by simp [PhaseFacts, h]

/-- The invariant is its two parts. -/
theorem inv_iff {s : State} : Inv s ↔ RegisterInv s ∧ PhaseFacts s := by
  constructor
  · intro h
    refine ⟨{ h with }, ?_⟩
    cases hp : s.phase with
    | scan => exact (phaseFacts_scan hp).mpr (h.scanning hp)
    | geom => exact (phaseFacts_geom hp).mpr (h.measuring hp)
    | unpack => exact (phaseFacts_unpack hp).mpr (h.unpacking hp)
    | done => exact (phaseFacts_done hp).mpr (h.finished hp)
    | idle | error => simp [PhaseFacts, hp]
  · rintro ⟨hregs, hfacts⟩
    exact { hregs with
      scanning := fun hp => (phaseFacts_scan hp).mp hfacts
      measuring := fun hp => (phaseFacts_geom hp).mp hfacts
      unpacking := fun hp => (phaseFacts_unpack hp).mp hfacts
      finished := fun hp => (phaseFacts_done hp).mp hfacts }

/-! ### The updates and the registers -/

theorem RegisterInv.raised {s : State} (h : RegisterInv s) {e : ErrCode} {pos : Word} (he : e ≠ .none)
    (hpos : pos ≠ 0#32 → e = .invalidCharacter) : RegisterInv (s.raised e pos) :=
  { h with
    dstWf := rfl
    dstWithin := rfl
    errRecorded := by simp [he]
    posOnlyForCharacter := hpos
    noOutputOnError := fun _ => rfl
    outputFits := Nat.zero_le _
    inputFits := nofun }

theorem RegisterInv.stepEnded {s : State} (h : RegisterInv s) : RegisterInv s.stepEnded :=
  { h with laneEmpty := rfl, sizeEmpty := rfl }

theorem RegisterInv.measured {s : State} (h : RegisterInv s) : RegisterInv (measured s) :=
  { h with quanta := toNat_fullQuantaOf _, trailing := toNat_trailingLenOf _ }

/-- A busy block may go to another phase than ERROR. -/
theorem RegisterInv.withPhase {s : State} (h : RegisterInv s) (hbusy : s.busy = true) {p : Phase} (hp : p ≠ .error) :
    RegisterInv { s with phase := p } :=
  { h with
    errRecorded := by
      have hs : s.phase ≠ .error := by rintro herr; simp [State.busy, herr] at hbusy
      simp [hp, h.errRecorded.mpr hs]
    noOutputOnError := fun herr => absurd herr hp
    inputFits := fun _ => h.inputFits hbusy }

theorem RegisterInv.allocated {s : State} {size : Nat} (h : RegisterInv s) (hp : s.phase = .geom)
    (hcap : size ≤ s.cfg.dstCap.toNat) : RegisterInv (allocated size s) := by
  have hbusy : s.busy = true := (busy_iff s).mpr (.inr (.inl hp))
  have hmeasured := h.measured.withPhase (p := .unpack) hbusy (by decide)
  have hfits : (BitVec.ofNat 32 size).toNat ≤ s.cfg.dstCap.toNat := (Nat.mod_le _ _).trans hcap
  exact { hmeasured with noOutputOnError := nofun, outputFits := hfits }

theorem RegisterInv.unpacked {s : State} (h : RegisterInv s) (hfits : Storable s) : RegisterInv (unpacked s) := by
  obtain ⟨hlen, hroom⟩ := hfits
  have hin : s.dstCursor.toNat + (emitted s).length ≤ s.cfg.dstCap.toNat := by
    rwa [emitted, length_quantumBytes, bytesOut_of_mem hlen]
  exact { h with
    dstWf := wf_writeRun s.dst _ _ h.dstWf
    dstWithin := within_writeRun s.dst _ hin h.dstWithin }

theorem RegisterInv.zeroed {s : State} (h : RegisterInv s) {p : Phase} (hp : p ≠ .error)
    (hbusy : ({ s with phase := p } : State).busy = true → s.srcLen.toNat ≤ s.cfg.srcCap.toNat) :
    RegisterInv { s.zeroed with phase := p } :=
  { h with
    errRecorded := by simp [hp]
    posOnlyForCharacter := fun h0 => absurd rfl h0
    noOutputOnError := fun _ => rfl
    outputFits := Nat.zero_le _
    quanta := by simp
    trailing := by simp
    inputFits := hbusy }

theorem registerInv_resetApplied (s : State) : RegisterInv s.resetApplied where
  srcWf := rfl
  dstWf := rfl
  srcWithin := rfl
  dstWithin := rfl
  errRecorded := by simp
  posOnlyForCharacter := fun h0 => absurd rfl h0
  noOutputOnError := nofun
  outputFits := Nat.zero_le _
  quanta := by simp
  trailing := by simp
  inputFits := nofun
  laneEmpty := rfl
  sizeEmpty := rfl

/-- The block's step keeps the registers and buffers in order. -/
theorem BlockEffect.registerInv {s t : State} (h : BlockEffect s t) (hs : RegisterInv s) : RegisterInv t := by
  cases h with
  | rest => exact hs
  | scanAll hp => exact hs.withPhase ((busy_iff s).mpr (.inl hp)) (by decide)
  | scanEnd hscan => exact hs.withPhase ((busy_iff s).mpr (.inl hscan.phase)) (by decide)
  | scanPad | scanLf => exact { hs with }
  | badLength | noRoom => exact (hs.measured.raised (by decide) (fun h0 => absurd rfl h0)).stepEnded
  | allocate size hp _ hcap => exact (hs.allocated hp hcap).stepEnded
  | badCharacter => exact (hs.raised (by decide) (fun _ => rfl)).stepEnded
  | quantum _ _ _ _ hfits => exact (hs.unpacked hfits).stepEnded
  | finish hp => exact hs.withPhase ((busy_iff s).mpr (.inr (.inr hp))) (by decide)

/-- So does an access of the host. -/
theorem HostEffect.registerInv {s t : State} (h : HostEffect s t) (hs : RegisterInv s) : RegisterInv t := by
  cases h with
  | start _ hfits => exact { hs.zeroed (p := .scan) (by decide) (fun _ => hfits) with }
  | clear => exact hs.zeroed (by decide) nofun
  | length hrest => exact { hs with inputFits := fun hbusy => absurd (hrest.symm.trans hbusy) (by decide) }
  | src _ i b hi =>
    exact { hs with
      srcWf := wf_write s.src i b hs.srcWf
      srcWithin := within_write hi s.src b hs.srcWithin }
  | dst _ i b hi =>
    exact { hs with
      dstWf := wf_write s.dst i b hs.dstWf
      dstWithin := within_write hi s.dst b hs.dstWithin }
  | bus => exact { hs with }
  | reset => exact registerInv_resetApplied s

/-! ### The updates and the facts of a phase -/

/-- One more trailer byte before the counted ones (40 R81, R82). -/
theorem trailerCounted_extend {s t : State} {i : Nat} (h : TrailerCounted s (i + 1)) (hi : i < s.srcLen.toNat)
    (hsrc : t.src = s.src) (hlen : t.srcLen = s.srcLen) (hbyte : isTrailerByte (s.src.read i) = true)
    (hpad : t.padCount.toNat = s.padCount.toNat + (s.src.read i == 0x3D#8).toNat)
    (hcount : t.padCount.toNat + t.lfCount.toNat = s.padCount.toNat + s.lfCount.toNat + 1) : TrailerCounted t i where
  total := by have := h.total; rw [hlen]; omega
  isTrailer := fun k hk hk' => by
    rw [hsrc]
    rcases Nat.eq_or_lt_of_le hk with rfl | hlt
    · exact hbyte
    · exact h.isTrailer k hlt (hlen ▸ hk')
  pads := by
    have hdrop : (List.range s.srcLen.toNat).drop i = i :: (List.range s.srcLen.toNat).drop (i + 1) := by
      rw [List.drop_eq_getElem_cons (by simpa using hi), List.getElem_range]
    rw [hsrc, hlen, hdrop, List.countP_cons, ← h.pads, hpad]
    cases s.src.read i == 0x3D#8 <;> rfl

theorem Scannable.toNat_pos {s : State} (h : Scannable s) : s.scanIdx.toNat = s.scanIdx.toNat - 1 + 1 := by
  have : s.scanIdx.toNat ≠ 0 := fun h0 => h.left (BitVec.eq_of_toNat_eq h0)
  omega

theorem Scannable.toNat_sub_one {s : State} (h : Scannable s) : (s.scanIdx - 1#32).toNat = s.scanIdx.toNat - 1 := by
  have := h.toNat_pos
  bv_omega

theorem scanInv_padScanned {s : State} (h : ScanInv s) (hscan : Scannable s)
    (hc : s.src.read (s.scanIdx.toNat - 1) = 0x3D#8) : ScanInv s.padScanned where
  counted := by
    have hcounted := hscan.toNat_pos ▸ h.counted
    have htotal := hcounted.total
    have hadd : (s.padCount + 1#32).toNat = s.padCount.toNat + 1 := by bv_omega
    rw [padScanned_scanIdx, hscan.toNat_sub_one]
    have hpad : s.padScanned.padCount.toNat =
        s.padCount.toNat + (s.src.read (s.scanIdx.toNat - 1) == 0x3D#8).toNat := by rw [hc]; exact hadd
    exact trailerCounted_extend hcounted (by omega) rfl rfl (by rw [hc]; rfl) hpad (by simp [hadd]; omega)
  unmeasured := { h.unmeasured with }

theorem scanInv_lfScanned {s : State} (h : ScanInv s) (hscan : Scannable s)
    (hc : s.src.read (s.scanIdx.toNat - 1) = 0x0A#8) : ScanInv s.lfScanned where
  counted := by
    have hcounted := hscan.toNat_pos ▸ h.counted
    have htotal := hcounted.total
    have hadd : (s.lfCount + 1#32).toNat = s.lfCount.toNat + 1 := by bv_omega
    rw [lfScanned_scanIdx, hscan.toNat_sub_one]
    have hpad : s.lfScanned.padCount.toNat =
        s.padCount.toNat + (s.src.read (s.scanIdx.toNat - 1) == 0x3D#8).toNat := by rw [hc]; rfl
    exact trailerCounted_extend hcounted (by omega) rfl rfl (by rw [hc]; rfl) hpad (by simp [hadd]; omega)
  unmeasured := { h.unmeasured with }

theorem geomInv_scanEnded {s : State} (h : ScanInv s) (hmax : TrailerMaximal s s.scanIdx.toNat) :
    GeomInv s.scanEnded :=
  ⟨{ h.counted with }, hmax, { h.unmeasured with }⟩

theorem unpackInv_allocated {s : State} {size : Nat} (h : GeomInv s) (hsize : decodedSize? s.scanIdx.toNat = some size)
    (hcap : size ≤ s.cfg.dstCap.toNat) : UnpackInv (allocated size s) := by
  obtain ⟨hcounted, hmax, -, hsrc, hdst, -⟩ := h
  have hdstLen : (BitVec.ofNat 32 size).toNat = size := by
    have := s.cfg.dstCap.isLt
    simp; omega
  constructor
  case counted => exact { hcounted with }
  case maximal => exact hmax
  case size => exact hsize.trans (congrArg some hdstLen.symm)
  case atQuantum => simp [Laws.allocated, measured, hsrc]
  case srcCursorLe => simp [Laws.allocated, measured, hsrc]
  case lockstep => simp [Laws.allocated, measured, hsrc, hdst]
  case accepted => simp [Laws.allocated, measured, hsrc]

theorem unpackInv_stepEnded {s : State} (h : UnpackInv s) : UnpackInv s.stepEnded :=
  { h with counted := { h.counted with }, maximal := h.maximal }

theorem firstBad_eq_none {cs : List Byte} : firstBad cs = none ↔ ∀ c ∈ cs, isContentByte c = true := by
  induction cs with
  | nil => simp [firstBad]
  | cons c cs ih =>
    cases hc : isContentByte c <;> simp [firstBad, hc, ih]

/-- An UNPACK step with content left is at the start of a quantum (43 R158). -/
theorem unpackInv_before_end {s : State} (h : UnpackInv s) (hmore : s.srcCursor ≠ s.contentLen) :
    s.srcCursor.toNat % 8 = 0 ∧ s.srcCursor.toNat < s.contentLen.toNat := by
  refine ⟨h.atQuantum.resolve_right hmore, lt_of_le_of_ne h.srcCursorLe fun heq => hmore (BitVec.eq_of_toNat_eq heq)⟩

theorem unpackInv_unpacked {s : State} (h : UnpackInv s) (hmore : s.srcCursor ≠ s.contentLen)
    (hgood : firstBad (quantumChars s) = none) (hfits : Storable s) : UnpackInv (unpacked s) := by
  obtain ⟨hstart, hlt⟩ := unpackInv_before_end h hmore
  obtain ⟨hlen, -⟩ := hfits
  have hquantum : s.quantumLength = min 8 (s.contentLen.toNat - s.srcCursor.toNat) := rfl
  have hlock := h.lockstep
  have hword := s.contentLen.isLt
  have hsrc : (Laws.unpacked s).srcCursor.toNat = s.srcCursor.toNat + s.quantumLength := by
    show (s.srcCursor + BitVec.ofNat 32 s.quantumLength).toNat = _
    rw [BitVec.toNat_add, BitVec.toNat_ofNat]; omega
  have hdst : (Laws.unpacked s).dstCursor.toNat = s.dstCursor.toNat + 5 * s.quantumLength / 8 := by
    show (s.dstCursor + BitVec.ofNat 32 (bytesOut s.quantumLength)).toNat = _
    rw [bytesOut_of_mem hlen, BitVec.toNat_add, BitVec.toNat_ofNat]; omega
  constructor
  case counted => exact { h.counted with }
  case maximal => exact h.maximal
  case size => exact h.size
  case atQuantum =>
    rcases Nat.le_total 8 (s.contentLen.toNat - s.srcCursor.toNat) with hfull | hlast
    · left; omega
    · right
      exact BitVec.eq_of_toNat_eq (hsrc.trans (by show _ = s.contentLen.toNat; omega))
  case srcCursorLe => rw [hsrc]; show _ ≤ s.contentLen.toNat; omega
  case lockstep => rw [hsrc, hdst]; omega
  case accepted =>
    intro i hi
    rw [hsrc] at hi
    show isContentByte (s.src.read i) = true
    rcases Nat.lt_or_ge i s.srcCursor.toNat with hold | hnew
    · exact h.accepted i hold
    · refine firstBad_eq_none.mp hgood _ (List.mem_map.mpr ⟨i - s.srcCursor.toNat, ?_, ?_⟩)
      · exact List.mem_range.mpr (by omega)
      · rw [Nat.add_sub_cancel' hnew]

theorem doneInv_finished {s : State} (h : UnpackInv s) (hend : s.srcCursor = s.contentLen) :
    DoneInv { s with phase := .done } where
  size := h.size
  srcCursor := hend
  dstCursor := by
    have hlock := h.lockstep
    obtain ⟨-, hsize⟩ := decodedSize?_eq_some.mp h.size
    exact BitVec.eq_of_toNat_eq (by rw [hlock, hsize, hend])

theorem phaseFacts_started (s : State) : PhaseFacts s.started where
  counted := ⟨by simp, fun i hi hi' => absurd hi (Nat.not_le_of_lt hi'), by simp [List.drop_eq_nil_of_le]⟩
  unmeasured := ⟨rfl, rfl, rfl, rfl⟩

/-- The block's step leads from the facts of a phase to those of the next. -/
theorem BlockEffect.phaseFacts {s t : State} (h : BlockEffect s t) (hs : PhaseFacts s) : PhaseFacts t := by
  cases h with
  | rest => exact hs
  | scanAll hp h0 => exact geomInv_scanEnded ((phaseFacts_scan hp).mp hs) (.inl (by simp [h0]))
  | scanEnd hscan hc => exact geomInv_scanEnded ((phaseFacts_scan hscan.phase).mp hs) (.inr hc)
  | scanPad hscan hc =>
    exact (phaseFacts_scan (s := s.padScanned) hscan.phase).mpr
      (scanInv_padScanned ((phaseFacts_scan hscan.phase).mp hs) hscan hc)
  | scanLf hscan hc =>
    exact (phaseFacts_scan (s := s.lfScanned) hscan.phase).mpr
      (scanInv_lfScanned ((phaseFacts_scan hscan.phase).mp hs) hscan hc)
  | badLength | noRoom | badCharacter => trivial
  | allocate size hp hsize hcap => exact unpackInv_stepEnded (unpackInv_allocated ((phaseFacts_geom hp).mp hs) hsize hcap)
  | quantum hp hmore hgood _ hfits =>
    exact (phaseFacts_unpack (s := (unpacked s).stepEnded) hp).mpr
      (unpackInv_stepEnded (unpackInv_unpacked ((phaseFacts_unpack hp).mp hs) hmore hgood hfits))
  | finish hp hend => exact doneInv_finished ((phaseFacts_unpack hp).mp hs) hend

/-- What only the host's side of the bus holds is in no fact of a phase. -/
theorem phaseFacts_bus {s : State} (h : PhaseFacts s) (inputs : List HostAction) (x : BitVec 32) (draws : Nat) :
    PhaseFacts { s with inputs := inputs, busData := x, draws := draws } := by
  cases hp : s.phase with
  | scan =>
    obtain ⟨hcounted, hunmeasured⟩ := (phaseFacts_scan hp).mp h
    exact (phaseFacts_scan rfl).mpr ⟨{ hcounted with }, { hunmeasured with }⟩
  | geom =>
    obtain ⟨hcounted, hmax, hunmeasured⟩ := (phaseFacts_geom hp).mp h
    exact (phaseFacts_geom rfl).mpr ⟨{ hcounted with }, hmax, { hunmeasured with }⟩
  | unpack =>
    have hs := (phaseFacts_unpack hp).mp h
    exact (phaseFacts_unpack rfl).mpr { hs with counted := { hs.counted with }, maximal := hs.maximal }
  | done => exact (phaseFacts_done rfl).mpr { (phaseFacts_done hp).mp h with }
  | idle | error => trivial

/-- At rest the facts of a phase speak of the result registers only, so the host may write what is its own. -/
theorem phaseFacts_at_rest {s : State} (h : PhaseFacts s) (hrest : s.busy = false) (n : Word) (src dst : Memory) :
    PhaseFacts { s with srcLen := n, src := src, dst := dst } := by
  rcases (not_busy_iff s).mp hrest with hp | hp | hp
  · simp [PhaseFacts, hp]
  · exact (phaseFacts_done (by exact hp)).mpr { (phaseFacts_done hp).mp h with }
  · simp [PhaseFacts, hp]

/-- An access of the host keeps the facts of the phase. -/
theorem HostEffect.phaseFacts {s t : State} (h : HostEffect s t) (hs : PhaseFacts s) : PhaseFacts t := by
  cases h with
  | start => exact phaseFacts_started s
  | clear | reset => trivial
  | length hrest n => exact phaseFacts_at_rest hs hrest n s.src s.dst
  | src hrest i b => exact phaseFacts_at_rest hs hrest s.srcLen (s.src.write i b) s.dst
  | dst hrest i b => exact phaseFacts_at_rest hs hrest s.srcLen s.src (s.dst.write i b)
  | bus x draws => exact phaseFacts_bus hs s.inputs x draws

/-- The pending actions are in no part of the invariant. -/
theorem inv_inputs {s : State} (h : Inv s) (inputs : List HostAction) : Inv { s with inputs := inputs } := by
  obtain ⟨hregs, hfacts⟩ := inv_iff.mp h
  exact inv_iff.mpr ⟨{ hregs with }, phaseFacts_bus hfacts inputs s.busData s.draws⟩

theorem BlockEffect.inv {s t : State} (h : BlockEffect s t) (hs : Inv s) : Inv t :=
  inv_iff.mpr ((inv_iff.mp hs).imp h.registerInv h.phaseFacts)

theorem HostEffect.inv {s t : State} (h : HostEffect s t) (hs : Inv s) : Inv t :=
  inv_iff.mpr ((inv_iff.mp hs).imp h.registerInv h.phaseFacts)

end Sys2Proof.Laws

namespace Sys2Proof.Proofs

open Sys2Proof.Machine Sys2Proof.Safety Sys2Proof.Laws

/-- Settles O40: a step is an effect of the block or of the host on the state without its action, and each kind keeps both
parts of the invariant. -/
theorem everyStepKeepsTheInvariant : Obligations.EveryStepKeepsTheInvariant := by
  intro s t hinv hstep
  obtain ⟨rest, hblock | hhost⟩ := step_next hstep
  · exact hblock.inv (inv_inputs hinv rest)
  · exact hhost.inv (inv_inputs hinv rest)

/-- Settles O39: the registers are 0 as a reset the host applies leaves them, and IDLE has no facts of its own. -/
theorem invariantHoldsAtReset : Obligations.InvariantHoldsAtReset :=
  inv_iff.mpr ⟨{ registerInv_resetApplied State.reset with }, trivial⟩

end Sys2Proof.Proofs
end

section
/-! PROOFS. No hidden state (10 R31): two blocks that agree in the input and in what the host sees of them move in
step. -/

namespace Sys2Proof.Laws

open Sys2Proof.Machine Sys2Proof.Safety Sys2Proof.Claims

/-! ### Runs of a block that the host leaves alone -/

theorem run_succ {M : Host.Core} {k : Nat} {s t : M.State} :
    M.run (k + 1) s = .next t ↔ ∃ u, M.step s = .next u ∧ M.run k u = .next t := by
  rw [Host.Core.run]
  cases M.step s <;> simp

/-- A block alone stays alone, so each step of its run is one of its own. -/
theorem run_alone_succ {k : Nat} {s t : State} (halone : s.inputs = []) :
    core.run (k + 1) s = .next t ↔ ∃ u, BlockEffect s u ∧ core.run k u = .next t := by
  have hstep (u : State) : step s = .next u ↔ BlockEffect s u := by rw [step_alone halone, blockStep_next]
  exact run_succ.trans (exists_congr fun u => and_congr_left' (hstep u))

/-- At rest and alone a block holds everything (43 R161). -/
theorem run_of_rest {s : State} (hrest : s.busy = false) (halone : s.inputs = []) (k : Nat) :
    core.run k s = .next s := by
  induction k with
  | zero => rfl
  | succ k ih => exact (run_alone_succ halone).mpr ⟨s, .rest hrest, ih⟩

/-- A run that has come to rest has the same end after more steps. -/
theorem run_past_rest {k : Nat} {s t : State} (halone : s.inputs = []) (h : core.run k s = .next t)
    (hrest : t.busy = false) (m : Nat) : core.run (k + m) s = .next t := by
  induction k generalizing s with
  | zero =>
    cases h
    exact run_of_rest hrest halone _
  | succ k ih =>
    obtain ⟨u, hu, hrun⟩ := (run_alone_succ halone).mp h
    rw [Nat.add_right_comm]
    exact (run_alone_succ halone).mpr ⟨u, hu, ih (hu.frame.inputs.trans halone) hrun⟩

/-! ### Two blocks that look alike -/

/-- The same bytes written at the end of buffers that agree so far make buffers that agree as far as the bytes reach. -/
theorem byte?_writeRun_congr {m m' : Memory} {a : Nat} {bs : List Byte} (h : ∀ k < a, m.byte? k = m'.byte? k) :
    ∀ k < a + bs.length, (m.writeRun a bs).byte? k = (m'.writeRun a bs).byte? k := by
  intro k hk
  rcases Nat.lt_or_ge k a with hold | hnew
  · rw [byte?_writeRun_outside m bs (.inl hold), byte?_writeRun_outside m' bs (.inl hold), h k hold]
  · obtain ⟨j, rfl⟩ := Nat.exists_eq_add_of_le hnew
    have hj : j < bs.length := by omega
    rw [byte?_writeRun_inside m bs hj, byte?_writeRun_inside m' bs hj]

/-- What the host sees of a block, with its phase and DST_CAP; the rest at a fixed value. -/
def visible (s : State) : State :=
  { s with
    cfg := { s.cfg with srcCap := 0#32 }
    scanIdx := 0#32, v := Vector.replicate 8 0#5, src := Memory.unspecified 0, dst := Memory.unspecified 0
    lane := 0#3, size := 0, inputs := [], busData := 0#32, draws := 0 }

/-- Two blocks in the same place of a transaction on the same input. -/
structure Alike (s s' : State) : Prop where
  shown : visible s = visible s'
  scanIdx : s.phase = .scan ∨ s.phase = .geom → s.scanIdx = s'.scanIdx
  input : ∀ i < s.srcLen.toNat, s.src.read i = s'.src.read i
  output : ∀ k < s.dstCursor.toNat, s.dst.byte? k = s'.dst.byte? k
  fits : s'.srcLen.toNat ≤ s'.cfg.srcCap.toNat

variable {s s' : State}

theorem Alike.phase (h : Alike s s') : s.phase = s'.phase := congrArg (·.phase) h.shown
theorem Alike.dstCap (h : Alike s s') : s.cfg.dstCap = s'.cfg.dstCap := congrArg (·.cfg.dstCap) h.shown
theorem Alike.srcLen (h : Alike s s') : s.srcLen = s'.srcLen := congrArg (·.srcLen) h.shown
theorem Alike.contentLen (h : Alike s s') : s.contentLen = s'.contentLen := congrArg (·.contentLen) h.shown
theorem Alike.srcCursor (h : Alike s s') : s.srcCursor = s'.srcCursor := congrArg (·.srcCursor) h.shown
theorem Alike.dstCursor (h : Alike s s') : s.dstCursor = s'.dstCursor := congrArg (·.dstCursor) h.shown

theorem Alike.busy (h : Alike s s') : s.busy = s'.busy := by
  unfold State.busy
  rw [h.phase]

theorem Alike.regValue (h : Alike s s') (n : Nat) : s.regValue n = s'.regValue n :=
  congrArg (·.regValue n) h.shown

theorem Alike.quantumLength (h : Alike s s') : s.quantumLength = s'.quantumLength := by
  rw [State.quantumLength, State.quantumLength, h.contentLen, h.srcCursor]

theorem Alike.scannable (h : Alike s s') (hscan : Scannable s) :
    Scannable s' ∧ s.src.read (s.scanIdx.toNat - 1) = s'.src.read (s'.scanIdx.toNat - 1) := by
  have hpos := hscan.toNat_pos
  obtain ⟨hp, hleft, hin, -⟩ := hscan
  have hidx := h.scanIdx (.inl hp)
  have hread := h.input (s.scanIdx.toNat - 1) (by omega)
  rw [hidx] at hleft hin
  rw [h.srcLen] at hin
  exact ⟨⟨h.phase ▸ hp, hleft, hin, hin.trans h.fits⟩, by rw [hread, hidx]⟩

/-- The quantum lies in the content, which is the same in both. -/
theorem Alike.quantumChars (h : Alike s s') (hinv : UnpackInv s) : quantumChars s = quantumChars s' := by
  have htotal := hinv.counted.total
  have hquantum : s.quantumLength = min 8 (s.contentLen.toNat - s.srcCursor.toNat) := rfl
  have hle := hinv.srcCursorLe
  unfold Claims.quantumChars
  rw [← h.quantumLength, ← h.srcCursor]
  refine List.map_congr_left fun i hi => h.input _ ?_
  have := List.mem_range.mp hi
  omega

theorem Alike.readable (h : Alike s s') {a m : Nat} (hread : Readable s a m) : Readable s' a m := by
  intro i hi
  have hin := (hread i hi).1
  have hfits := h.fits
  rw [h.srcLen] at hin
  omega

theorem Alike.storable (h : Alike s s') (hfits : Storable s) : Storable s' := by
  unfold Storable
  rw [← h.quantumLength, ← h.dstCursor, ← h.dstCap]
  exact hfits

theorem Alike.emitted (h : Alike s s') (hinv : UnpackInv s) : emitted s = emitted s' := by
  rw [Laws.emitted, Laws.emitted, h.quantumLength, h.quantumChars hinv]

/-- Storing the same bytes at the same cursor keeps the output alike. -/
theorem Alike.unpacked (h : Alike s s') (hp : s.phase = .unpack) (hinv : UnpackInv s) :
    Alike (unpacked s).stepEnded (unpacked s').stepEnded where
  shown := by
    have hstored := congrArg (fun x : State => visible (x.advanced s.quantumLength)) h.shown
    rw [Laws.unpacked, Laws.unpacked, ← h.quantumLength]
    exact hstored
  scanIdx := fun hphase => by
    have : (Laws.unpacked s).phase = .unpack := hp
    simp [this] at hphase
  input := h.input
  output := fun k hk => by
    have hsame : (Laws.unpacked s').dst = s'.dst.writeRun s.dstCursor.toNat (Laws.emitted s) := by
      rw [h.dstCursor, h.emitted hinv]
      rfl
    have hcursor : (Laws.unpacked s).dstCursor.toNat ≤ s.dstCursor.toNat + (Laws.emitted s).length := by
      rw [Laws.emitted, length_quantumBytes]
      show (s.dstCursor + BitVec.ofNat 32 (bytesOut s.quantumLength)).toNat ≤ _
      rw [BitVec.toNat_add, BitVec.toNat_ofNat]
      omega
    rw [stepEnded_dst, stepEnded_dst, hsame]
    exact byte?_writeRun_congr h.output k (hk.trans_le hcursor)
  fits := h.fits

theorem Alike.raised (h : Alike s s') (e : ErrCode) (pos : Word) :
    Alike (s.raised e pos).stepEnded (s'.raised e pos).stepEnded where
  shown := congrArg (fun x => visible (x.raised e pos)) h.shown
  scanIdx := nofun
  input := h.input
  output := fun _ _ => rfl
  fits := h.fits

theorem Alike.measured (h : Alike s s') (hp : s.phase = .geom) : Alike (measured s) (measured s') where
  shown := by
    rw [Laws.measured, Laws.measured, ← h.scanIdx (.inr hp)]
    exact congrArg (fun x => visible (Laws.measured { x with scanIdx := s.scanIdx })) h.shown
  scanIdx := h.scanIdx
  input := h.input
  output := h.output
  fits := h.fits

theorem Alike.allocated (h : Alike s s') (hp : s.phase = .geom) (size : Nat) :
    Alike (allocated size s).stepEnded (allocated size s').stepEnded where
  shown := congrArg (fun x => visible { x with dstLen := BitVec.ofNat 32 size, phase := .unpack }) (h.measured hp).shown
  scanIdx := nofun
  input := h.input
  output := h.output
  fits := h.fits

theorem Alike.withPhase (h : Alike s s') (p : Phase) (hidx : p = .scan ∨ p = .geom → s.scanIdx = s'.scanIdx) :
    Alike { s with phase := p } { s' with phase := p } where
  shown := congrArg (fun x => visible { x with phase := p }) h.shown
  scanIdx := hidx
  input := h.input
  output := h.output
  fits := h.fits

theorem Alike.padScanned (h : Alike s s') (hp : s.phase = .scan) : Alike s.padScanned s'.padScanned where
  shown := by
    have hscanned := congrArg (fun x : State => visible x.padScanned) h.shown
    exact hscanned
  scanIdx := fun _ => congrArg (· - 1#32) (h.scanIdx (.inl hp))
  input := h.input
  output := h.output
  fits := h.fits

theorem Alike.lfScanned (h : Alike s s') (hp : s.phase = .scan) : Alike s.lfScanned s'.lfScanned where
  shown := by
    have hscanned := congrArg (fun x : State => visible x.lfScanned) h.shown
    exact hscanned
  scanIdx := fun _ => congrArg (· - 1#32) (h.scanIdx (.inl hp))
  input := h.input
  output := h.output
  fits := h.fits

/-- Blocks that look alike take the same step, and still look alike after it. -/
theorem Alike.step (h : Alike s s') {t : State} (hfacts : PhaseFacts s) (ht : BlockEffect s t) :
    ∃ t', BlockEffect s' t' ∧ Alike t t' := by
  cases ht with
  | rest hrest => exact ⟨s', .rest (h.busy ▸ hrest), h⟩
  | scanAll hp h0 =>
    exact ⟨_, .scanAll (h.phase ▸ hp) (h.scanIdx (.inl hp) ▸ h0), h.withPhase .geom fun _ => h.scanIdx (.inl hp)⟩
  | scanEnd hscan hc =>
    obtain ⟨hscan', hread⟩ := h.scannable hscan
    exact ⟨_, .scanEnd hscan' (hread ▸ hc), h.withPhase .geom fun _ => h.scanIdx (.inl hscan.phase)⟩
  | scanPad hscan hc =>
    obtain ⟨hscan', hread⟩ := h.scannable hscan
    exact ⟨_, .scanPad hscan' (hread ▸ hc), h.padScanned hscan.phase⟩
  | scanLf hscan hc =>
    obtain ⟨hscan', hread⟩ := h.scannable hscan
    exact ⟨_, .scanLf hscan' (hread ▸ hc), h.lfScanned hscan.phase⟩
  | badLength hp hsize =>
    exact ⟨_, .badLength (h.phase ▸ hp) (h.scanIdx (.inr hp) ▸ hsize), (h.measured hp).raised _ _⟩
  | noRoom size hp hsize hcap =>
    exact ⟨_, .noRoom size (h.phase ▸ hp) (h.scanIdx (.inr hp) ▸ hsize) (h.dstCap ▸ hcap),
      (h.measured hp).raised _ _⟩
  | allocate size hp hsize hcap =>
    exact ⟨_, .allocate size (h.phase ▸ hp) (h.scanIdx (.inr hp) ▸ hsize) (h.dstCap ▸ hcap),
      h.allocated hp size⟩
  | badCharacter j hp hmore hbad hread =>
    have hinv := (phaseFacts_unpack hp).mp hfacts
    refine ⟨_, .badCharacter j (h.phase ▸ hp) (h.srcCursor ▸ h.contentLen ▸ hmore) (h.quantumChars hinv ▸ hbad)
      (h.srcCursor ▸ h.readable hread), ?_⟩
    rw [← h.srcCursor]
    exact h.raised _ _
  | quantum hp hmore hgood hread hfits =>
    have hinv := (phaseFacts_unpack hp).mp hfacts
    exact ⟨_, .quantum (h.phase ▸ hp) (h.srcCursor ▸ h.contentLen ▸ hmore) (h.quantumChars hinv ▸ hgood)
      (h.srcCursor ▸ h.quantumLength ▸ h.readable hread) (h.storable hfits), h.unpacked hp hinv⟩
  | finish hp hend =>
    exact ⟨_, .finish (h.phase ▸ hp) (h.srcCursor ▸ h.contentLen ▸ hend), h.withPhase .done nofun⟩

/-- Two runs of the same length from blocks that look alike end in blocks that look alike. -/
theorem Alike.run {k : Nat} {t : State} (h : Alike s s') (hfacts : PhaseFacts s) (halone : s.inputs = [])
    (halone' : s'.inputs = []) (hrun : core.run k s = .next t) :
    ∃ t', core.run k s' = .next t' ∧ Alike t t' ∧ PhaseFacts t := by
  induction k generalizing s s' with
  | zero =>
    cases hrun
    exact ⟨s', rfl, h, hfacts⟩
  | succ k ih =>
    obtain ⟨u, hu, hrest⟩ := (run_alone_succ halone).mp hrun
    obtain ⟨u', hu', halike⟩ := h.step hfacts hu
    obtain ⟨t', hrun', ht⟩ := ih halike (hu.phaseFacts hfacts) (hu.frame.inputs.trans halone)
      (hu'.frame.inputs.trans halone') hrest
    exact ⟨t', (run_alone_succ halone').mpr ⟨u', hu', hrun'⟩, ht⟩

/-- A START makes blocks with the same input and DST_CAP look alike, whatever they held before. -/
theorem Alike.started (hlen : s.srcLen = s'.srcLen) (hcap : s.cfg.dstCap = s'.cfg.dstCap)
    (hinput : ∀ i < s.srcLen.toNat, s.src.read i = s'.src.read i) (hfits : s'.srcLen.toNat ≤ s'.cfg.srcCap.toNat) :
    Alike s.started s'.started where
  shown := by simp [visible, State.started, State.zeroed, hlen, hcap]
  scanIdx := fun _ => hlen
  input := hinput
  output := nofun
  fits := hfits

/-- The input is the same where its length and its bytes are. -/
theorem textOf_eq_iff : textOf s = textOf s' ↔
    s.srcLen = s'.srcLen ∧ ∀ i < s.srcLen.toNat, s.src.read i = s'.src.read i := by
  constructor
  · intro h
    have hlen : s.srcLen.toNat = s'.srcLen.toNat := by simpa [textOf] using congrArg List.length h
    refine ⟨BitVec.eq_of_toNat_eq hlen, fun i hi => ?_⟩
    rw [textOf, textOf, hlen] at h
    exact List.map_inj_left.mp h i (List.mem_range.mpr (hlen ▸ hi))
  · rintro ⟨hlen, hread⟩
    rw [textOf, textOf, ← hlen]
    exact List.map_congr_left fun i hi => hread i (List.mem_range.mp hi)

/-- START of a ready block is accepted (43 R152). -/
theorem exec_cmdStart_of_ready (h : Ready s) : exec .cmdStart s = .next s.started := by
  obtain ⟨hrest, hfits, -⟩ := h
  simp [exec, execCmdStart, hrest, hfits]

/-- Blocks that look alike, in DONE, hold the same decoded bytes. -/
theorem Alike.looksTheSame (h : Alike s s') (hfacts : PhaseFacts s) : LooksTheSame s s' where
  registers n _ := h.regValue n
  output hdone k hk := by
    have hcursor := ((phaseFacts_done hdone).mp hfacts).dstCursor
    exact h.output k (hcursor ▸ hk)

end Sys2Proof.Laws

namespace Sys2Proof.Proofs

open Sys2Proof.Machine Sys2Proof.Safety Sys2Proof.Laws

/-- Settles O49: after START the two blocks look alike, so runs of one length keep them alike, and a run that has come to
rest may be taken as long as the other. -/
theorem noHiddenState : Obligations.NoHiddenState := by
  intro s s' hready hready' htext hcap s0 s0' t t' k k' hstart hstart' hrun hrun' hrest hrest'
  obtain ⟨hlen, hinput⟩ := textOf_eq_iff.mp htext
  cases (exec_cmdStart_of_ready hready).symm.trans hstart
  cases (exec_cmdStart_of_ready hready').symm.trans hstart'
  have halike := Alike.started hlen hcap hinput hready'.fits
  have hlong := run_past_rest (s := s.started) hready.alone hrun hrest k'
  have hlong' := run_past_rest (s := s'.started) hready'.alone hrun' hrest' k
  obtain ⟨u, hu, hend, hfacts⟩ := halike.run (phaseFacts_started s) hready.alone hready'.alone hlong
  rw [Nat.add_comm] at hu
  cases hu.symm.trans hlong'
  exact ⟨hend.looksTheSame hfacts, hend.srcLen⟩

end Sys2Proof.Proofs
end

section
/-! PROOFS. The decoder and the encoder as inverses, over bit patterns and over bytes; which state selects which row of the
scan; and the statements of the family 30_encoding.md. -/

namespace Sys2Proof.Laws

open Sys2Proof.Machine

/-! ### Bit patterns and operations (30 R67, R70, R71) -/

/-- The decoder reads a well-formed operation back from its pattern. -/
theorem decode_of_encode {i : Instr} {e : Encoding} (hwf : i.wellFormed = true) (he : encode i = some e) :
    decode e = .ok i := by
  cases i
  case symInvalid code => exact RoundTrip.symInvalid code hwf e he
  all_goals cases he <;> rfl

/-- Every SYM8 code is the code of its row: each accepted one of its own row, the others of SYM.INVALID (41 section 3). -/
theorem encode_decodeSym8 (code : Byte) :
    (decodeSym8 code).wellFormed = true ∧ encode (decodeSym8 code) = some (.sym8 code) := by
  revert code
  decide

theorem encode_decodeTlen3 (len : BitVec 3) :
    (decodeTlen3 len).wellFormed = true ∧ encode (decodeTlen3 len) = some (.tlen3 len) := by
  revert len
  decide

/-- A quantum length with an operation is the one that the operation's pattern has (42 R140). -/
theorem encode_of_decodeQlen4 {len : BitVec 4} {i : Instr} (h : decodeQlen4 len = .ok i) :
    i.wellFormed = true ∧ encode i = some (.qlen4 len) := by
  unfold decodeQlen4 at h
  split at h <;> cases h <;> exact ⟨rfl, congrArg (some ∘ Encoding.qlen4) (BitVec.eq_of_toNat_eq (Eq.symm ‹_›))⟩

/-- A command word that is not reserved is the one that the command's pattern has (30 R71). -/
theorem encode_of_decodeCtrl32 {word : BitVec 32} {i : Instr} (h : decodeCtrl32 word = .ok i) :
    i.wellFormed = true ∧ encode i = some (.ctrl32 word) := by
  unfold decodeCtrl32 at h
  split at h <;> cases h <;> exact ⟨rfl, congrArg (some ∘ Encoding.ctrl32) (BitVec.eq_of_toNat_eq (Eq.symm ‹_›))⟩

/-- On bit patterns the decoder is the inverse of the encoder. -/
theorem decode_eq_ok {e : Encoding} {i : Instr} :
    decode e = .ok i ↔ i.wellFormed = true ∧ encode i = some e := by
  refine ⟨fun h => ?_, fun ⟨hwf, he⟩ => decode_of_encode hwf he⟩
  cases e with
  | sym8 code => cases h; exact encode_decodeSym8 code
  | tlen3 len => cases h; exact encode_decodeTlen3 len
  | qlen4 len => exact encode_of_decodeQlen4 h
  | ctrl32 word => exact encode_of_decodeCtrl32 h

/-! ### Bytes and bit patterns (log entry 19) -/

/-- A byte holds a narrow code exactly where it is the code with zeros above it. -/
theorem narrowCode_eq_ok {width : Nat} (hwidth : width ≤ 8) {b : Byte} {code : BitVec width} :
    narrowCode width b = .ok code ↔ code.setWidth 8 = b := by
  have hle : 2 ^ width ≤ 2 ^ 8 := Nat.pow_le_pow_right (by decide) hwidth
  have hcode := code.isLt
  simp only [narrowCode, ← BitVec.toNat_inj, BitVec.toNat_setWidth]
  rw [Nat.mod_eq_of_lt (by omega)]
  split
  next hb => simp [← BitVec.toNat_inj, Nat.mod_eq_of_lt hb, eq_comm]
  next hb => simp; omega

/-- A word is put together from four bytes exactly where these are its bytes, least significant first. -/
theorem append_bytes_eq_iff {b0 b1 b2 b3 : Byte} {word : BitVec 32} :
    b3 ++ b2 ++ b1 ++ b0 = word ↔ bytesOf (.ctrl32 word) = [b0, b1, b2, b3] := by
  simp only [bytesOf, List.cons.injEq, and_true]
  constructor
  · rintro rfl
    refine ⟨?_, ?_, ?_, ?_⟩ <;> ext i hi <;> grind
  · rintro ⟨rfl, rfl, rfl, rfl⟩
    ext i hi
    grind

/-- A narrow code read from a byte, in its format. -/
theorem map_narrowCode_eq_ok {width : Nat} (hwidth : width ≤ 8) {b : Byte} {f : BitVec width → Encoding} {e : Encoding} :
    (narrowCode width b).map f = .ok e ↔ ∃ code : BitVec width, code.setWidth 8 = b ∧ f code = e := by
  simp only [← narrowCode_eq_ok hwidth]
  cases narrowCode width b <;> simp [Except.map]

/-- The bytes of a pattern hold that pattern. -/
theorem encodingOfBytes_bytesOf (e : Encoding) : encodingOfBytes e.format (bytesOf e) = .ok e := by
  cases e with
  | sym8 code => rfl
  | tlen3 len => exact (map_narrowCode_eq_ok (by decide)).mpr ⟨len, rfl, rfl⟩
  | qlen4 len => exact (map_narrowCode_eq_ok (by decide)).mpr ⟨len, rfl, rfl⟩
  | ctrl32 word => exact congrArg (Except.ok ∘ Encoding.ctrl32) (append_bytes_eq_iff.mpr rfl)

/-- A run of bytes holds a pattern in a format exactly where the pattern is of the format and these are its bytes. -/
theorem encodingOfBytes_eq_ok {f : Format} {bs : List Byte} {e : Encoding} :
    encodingOfBytes f bs = .ok e ↔ e.format = f ∧ bytesOf e = bs := by
  constructor
  · intro h
    unfold encodingOfBytes at h
    split at h
    next b => cases h; exact ⟨rfl, rfl⟩
    next b =>
      obtain ⟨len, rfl, rfl⟩ := (map_narrowCode_eq_ok (by decide)).mp h
      exact ⟨rfl, rfl⟩
    next b =>
      obtain ⟨len, rfl, rfl⟩ := (map_narrowCode_eq_ok (by decide)).mp h
      exact ⟨rfl, rfl⟩
    next b0 b1 b2 b3 => cases h; exact ⟨rfl, append_bytes_eq_iff.mp rfl⟩
    next => cases h
  · rintro ⟨rfl, rfl⟩
    exact encodingOfBytes_bytesOf e

/-- On bytes the decoder reads a pattern's bytes and then the pattern. -/
theorem decodeBytes_eq_ok {f : Format} {bs : List Byte} {i : Instr} :
    decodeBytes f bs = .ok i ↔ ∃ e : Encoding, (e.format = f ∧ bytesOf e = bs) ∧ decode e = .ok i := by
  simp only [← encodingOfBytes_eq_ok, decodeBytes]
  cases encodingOfBytes f bs <;> simp

/-! ### The rows that PHASE selects (30 R75) -/

/-- An operation of format PHASE is refused where its selector does not hold (30 R75, log entry 11). -/
theorem ifSelected_of_not {sel : Bool} (h : sel = false) (r : Result) : ifSelected sel r = .refused .notSelected := by
  simp [ifSelected, h]

/-! ### The rows of the scan (40 R81 to R83) -/

/-- The three rows of which a SCAN step performs one. -/
def scanRows : List Instr := [.pvScanPad, .pvScanLf, .pvScanEnd]

/-- The row for a byte of a class (43 R156). -/
def scanRow : SymClass → Instr
  | .pad => .pvScanPad
  | .lf => .pvScanLf
  | .upper | .lower | .digit | .invalid => .pvScanEnd

/-- The row the scan comes to: PV.SCAN.END when no byte is left, else the row for the last byte left. -/
def nextScanRow (s : State) : Instr :=
  if s.scanIdx = 0#32 then .pvScanEnd else scanRow (classOf (s.src.read (s.scanIdx.toNat - 1)))

theorem nextScanRow_empty {s : State} (h : s.scanIdx = 0#32) : nextScanRow s = .pvScanEnd := if_pos h

theorem nextScanRow_byte {s : State} (h : s.scanIdx ≠ 0#32) :
    nextScanRow s = scanRow (classOf (s.src.read (s.scanIdx.toNat - 1))) := if_neg h

theorem scanRow_eq_pad {c : SymClass} : scanRow c = .pvScanPad ↔ c = .pad := by
  cases c <;> decide

theorem scanRow_eq_lf {c : SymClass} : scanRow c = .pvScanLf ↔ c = .lf := by
  cases c <;> decide

theorem scanRow_eq_end {c : SymClass} : scanRow c = .pvScanEnd ↔ c ∉ [SymClass.pad, .lf] := by
  cases c <;> decide

/-- The row that the SCAN step selects, if any, is the one the scan comes to. -/
theorem eq_nextScanRow_of_selectScan {s : State} {i : Instr} (h : selectScan s = .run i) : i = nextScanRow s := by
  by_cases h0 : s.scanIdx = 0#32
  · simpa [selectScan, h0, nextScanRow_empty, eq_comm] using h
  · cases hbyte : s.srcByte (s.scanIdx.toNat - 1) with
    | error f => simp [selectScan, h0, hbyte] at h
    | ok c =>
      obtain ⟨-, rfl⟩ := srcByte_eq_ok.mp hbyte
      simp only [selectScan, h0, hbyte, if_false] at h
      rw [nextScanRow_byte h0]
      generalize classOf (s.src.read (s.scanIdx.toNat - 1)) = c at h ⊢
      cases c <;> cases h <;> rfl

/-- A scan row is selected in SCAN only, and then it is the row the scan comes to. -/
theorem nextScanRow_of_select {s : State} {i : Instr} (hi : i ∈ scanRows) (h : select s = .run i) :
    s.phase = .scan ∧ i = nextScanRow s := by
  unfold select at h
  split at h
  next => cases h
  next => cases h
  next => cases h
  next hp => exact ⟨hp, eq_nextScanRow_of_selectScan h⟩
  next => cases h; exact absurd hi (by decide)
  next => split at h <;> cases h <;> exact absurd hi (by decide)

/-- A scan row is refused outside SCAN, and where it is not the row the scan comes to (log entry 11). -/
theorem exec_scanRow_refused {s : State} {i : Instr} (hi : i ∈ scanRows) (h : s.phase = .scan → nextScanRow s ≠ i) :
    exec i s = .refused .notSelected := by
  have hsel : select s ≠ .run i := fun hrun =>
    have ⟨hp, hrow⟩ := nextScanRow_of_select hi hrun
    h hp hrow.symm
  simp only [scanRows, List.mem_cons, List.not_mem_nil, or_false] at hi
  obtain rfl | rfl | rfl := hi <;> exact ifSelected_of_not (decide_eq_false hsel) _

/-- The trailing lengths that contribute nothing (40 R91, R93, R96). -/
theorem tbl_invalid {len : BitVec 3} (h : len ∈ [1#3, 3#3, 6#3]) : tbl len = none := by
  revert len
  decide

end Sys2Proof.Laws

namespace Sys2Proof.Proofs

open Sys2Proof.Machine Sys2Proof.Laws

/-- Settles O1: on bit patterns the two are inverse, and so are the bytes of a pattern and the pattern in bytes. -/
theorem encodersAndDecodersAgree : Obligations.EncodersAndDecodersAgree := by
  constructor
  · intro i e hwf he
    exact decodeBytes_eq_ok.mpr ⟨e, ⟨rfl, rfl⟩, decode_eq_ok.mpr ⟨hwf, he⟩⟩
  · intro f bs i h
    obtain ⟨e, ⟨hformat, hbytes⟩, hdecode⟩ := decodeBytes_eq_ok.mp h
    obtain ⟨hwf, he⟩ := decode_eq_ok.mp hdecode
    exact ⟨hwf, e, he, hformat, hbytes⟩

/-- Settles O10: a scan row must be the one the scan comes to; the other rows stand under their phase and what it adds. -/
theorem unselectedPhaseRowsAreRefused : Obligations.UnselectedPhaseRowsAreRefused := by
  intro s
  have hpad : .pvScanPad ∈ scanRows := by decide
  have hlf : .pvScanLf ∈ scanRows := by decide
  have hend : .pvScanEnd ∈ scanRows := by decide
  refine ⟨fun hp => ?_, fun h0 => ?_, fun h0 => ⟨fun hc => ?_, fun hc => ?_, fun hc => ?_⟩, fun hp => ?_, fun hlen => ?_,
    fun hp => ?_, fun hmore => ?_⟩
  · exact ⟨exec_scanRow_refused hpad (absurd · hp), exec_scanRow_refused hlf (absurd · hp),
      exec_scanRow_refused hend (absurd · hp)⟩
  · exact ⟨exec_scanRow_refused hpad (by simp [nextScanRow_empty h0]),
      exec_scanRow_refused hlf (by simp [nextScanRow_empty h0])⟩
  · exact exec_scanRow_refused hpad fun _ h => hc (scanRow_eq_pad.mp ((nextScanRow_byte h0).symm.trans h))
  · exact exec_scanRow_refused hlf fun _ h => hc (scanRow_eq_lf.mp ((nextScanRow_byte h0).symm.trans h))
  · exact exec_scanRow_refused hend fun _ h => scanRow_eq_end.mp ((nextScanRow_byte h0).symm.trans h) hc
  · have hgeom : decide (s.phase = .geom) = false := decide_eq_false hp
    exact ⟨ifSelected_of_not hgeom _, ifSelected_of_not hgeom _, ifSelected_of_not hgeom _,
      ifSelected_of_not (by simp [hp]) _, ifSelected_of_not hgeom _⟩
  · exact ifSelected_of_not (by simp [tbl_invalid hlen]) _
  · exact ⟨ifSelected_of_not (decide_eq_false hp) _, ifSelected_of_not (by simp [hp]) _⟩
  · exact ifSelected_of_not (by simp [hmore]) _

/-- Settles O2: each code is evaluated by the decoder. -/
theorem specCodesDecodeToTheirRows : Obligations.SpecCodesDecodeToTheirRows :=
  ⟨rfl, rfl, rfl, rfl, rfl, rfl, rfl, rfl, rfl, rfl, rfl, rfl⟩

end Sys2Proof.Proofs
end

section
/-! PROOFS. The trailer and the content of an input, the scan and geometry rows where they are selected, and the
statements of the family 40_padding_validator.md. -/

namespace Sys2Proof.Laws

open Sys2Proof.Machine

/-! ### The trailer and the content of an input (40 R80) -/

theorem isTrailerByte_iff {c : Byte} : isTrailerByte c = true ↔ c = 0x3D#8 ∨ c = 0x0A#8 := by
  simp [isTrailerByte]

theorem isTrailerByte_of_mem_trailerOf {text : List Byte} {c : Byte} (h : c ∈ trailerOf text) :
    isTrailerByte c = true :=
  List.mem_rtakeWhile_imp h

/-- The content is what is left when the trailer bytes at the end are dropped. -/
theorem contentOf_eq_rdropWhile (text : List Byte) : contentOf text = text.rdropWhile isTrailerByte := by
  have hlen : contentLenOf text = (text.rdropWhile isTrailerByte).length := by
    have hsum : (text.rdropWhile isTrailerByte ++ trailerOf text).length = text.length :=
      congrArg List.length List.rdropWhile_append_rtakeWhile
    rw [List.length_append] at hsum
    exact Nat.sub_eq_of_eq_add hsum.symm
  rw [contentOf, hlen]
  exact (List.prefix_iff_eq_take.mp (List.rdropWhile_prefix isTrailerByte text)).symm

theorem contentOf_append_trailerOf (text : List Byte) : contentOf text ++ trailerOf text = text := by
  rw [contentOf_eq_rdropWhile]
  exact List.rdropWhile_append_rtakeWhile

@[simp] theorem length_contentOf (text : List Byte) : (contentOf text).length = contentLenOf text :=
  List.length_take_of_le (contentLenOf_le_length text)

/-- No longer suffix is all trailer bytes: the content does not end in one. -/
theorem not_isTrailerByte_of_getLast?_contentOf {text : List Byte} {c : Byte}
    (h : (contentOf text).getLast? = some c) : ¬ isTrailerByte c = true := by
  rw [contentOf_eq_rdropWhile] at h
  obtain ⟨hne, rfl⟩ := List.mem_getLast?_eq_getLast h
  exact List.rdropWhile_last_not isTrailerByte text hne

theorem padOf_add_lfOf (text : List Byte) : padOf text + lfOf text = (trailerOf text).length :=
  Nat.add_sub_cancel' List.countP_le_length

/-- The bytes of the trailer that are not `=` are the LF bytes. -/
theorem lfOf_eq_countP (text : List Byte) : lfOf text = (trailerOf text).countP (· == 0x0A#8) := by
  have hother : (trailerOf text).countP (fun c => decide ¬(c == 0x3D#8) = true) =
      (trailerOf text).countP (· == 0x0A#8) := by
    refine List.countP_congr fun c hc => ?_
    obtain rfl | rfl := isTrailerByte_iff.mp (isTrailerByte_of_mem_trailerOf hc) <;> decide
  have hlen := List.length_eq_countP_add_countP (· == 0x3D#8) (l := trailerOf text)
  rw [hother] at hlen
  exact Nat.sub_eq_of_eq_add (hlen.trans (Nat.add_comm _ _))

/-! ### A decode that succeeds (43 R150) -/

@[simp] theorem length_bytesOfBits (size : Nat) (x : List Bool) : (bytesOfBits size x).length = size := by
  simp [bytesOfBits]

theorem decodeText_eq_ok {cap : Nat} {text out : List Byte} :
    decodeText cap text = .ok out ↔
      ∃ size, decodedSize? (contentLenOf text) = some size ∧ size ≤ cap ∧ firstBad (contentOf text) = none ∧
        out = bytesOfBits size (contentBits (contentOf text)) := by
  unfold decodeText
  cases decodedSize? (contentLenOf text) with
  | none => simp
  | some size =>
    by_cases hcap : cap < size
    · simp [hcap]
    · cases firstBad (contentOf text) <;> simp [hcap, Nat.le_of_not_lt hcap, eq_comm]

/-! ### The rows that PHASE selects, where they are selected (30 R75) -/

theorem ifSelected_of {sel : Bool} (h : sel = true) (r : Result) : ifSelected sel r = r := by
  simp [ifSelected, h]

/-- In SCAN the block selects the row the scan comes to, if the byte it looks at may be read (43 R156). -/
theorem select_scan {s : State} (hp : s.phase = .scan) (hread : s.scanIdx ≠ 0#32 → Scannable s) :
    select s = .run (nextScanRow s) := by
  by_cases h0 : s.scanIdx = 0#32
  · simp [select, hp, selectScan, h0, nextScanRow_empty]
  · have hpos := (hread h0).toNat_pos
    have hin := (hread h0).inInput
    have hsrc := (hread h0).inSrc
    have hbyte : s.srcByte (s.scanIdx.toNat - 1) = .ok (s.src.read (s.scanIdx.toNat - 1)) :=
      srcByte_ok (by omega) (by omega)
    simp only [select, hp, selectScan, h0, if_false, hbyte, nextScanRow_byte h0]
    cases classOf (s.src.read (s.scanIdx.toNat - 1)) <;> rfl

/-- Every class but PAD and LF ends the scan (40 R83). -/
theorem scanRow_of_not_trailer {c : SymClass} (h : c ∈ [SymClass.upper, .lower, .digit, .invalid]) :
    scanRow c = .pvScanEnd := by
  simp only [List.mem_cons, List.not_mem_nil, or_false] at h
  obtain rfl | rfl | rfl | rfl := h <;> rfl

/-- The trailing lengths that contribute bytes, or none (40 R90, R92, R94, R95, R97). -/
theorem tbl_valid {len : BitVec 3} (h : len ∈ [0#3, 2#3, 4#3, 5#3, 7#3]) : (tbl len).isSome = true := by
  revert len
  decide

/-- PV.ALLOC where it is selected (40 R100). -/
theorem execPvAlloc_of_valid {s : State} (hp : s.phase = .geom) (hlen : s.trailingLen ∈ [0#3, 2#3, 4#3, 5#3, 7#3]) :
    execPvAlloc s =
      if s.cfg.dstCap.toNat < s.size then .next (s.raised .allocationFailure 0#32)
      else .next { s with dstLen := BitVec.ofNat 32 s.size } :=
  ifSelected_of (by simp [hp, tbl_valid hlen]) _

/-- The row that TRAILING_LEN decodes to is the trailing-length rule that it selects (30 R63). -/
theorem runTrailing_eq_execTrailing (s : State) : Claims.runTrailing s = execTrailing s := by
  have hlt : s.trailingLen.toNat < 8 := s.trailingLen.isLt
  simp only [Claims.runTrailing, decode, decodeTlen3, execTrailing]
  interval_cases s.trailingLen.toNat <;> rfl

end Sys2Proof.Laws

namespace Sys2Proof.Proofs

open Sys2Proof.Machine Sys2Proof.Laws

/-- Settles O9: the row must be the one the scan comes to, and that is given by the class of the byte. -/
theorem scanRowsFollowTheClass : Obligations.ScanRowsFollowTheClass := by
  intro s hp
  refine ⟨fun h0 => ?_, fun h0 hin hsrc => ?_⟩
  · have hsel := select_scan hp (absurd h0)
    rw [nextScanRow_empty h0] at hsel
    exact ifSelected_of (decide_eq_true hsel) _
  · have hsel := select_scan hp fun _ => ⟨hp, h0, hin, hsrc⟩
    rw [nextScanRow_byte h0] at hsel
    refine ⟨fun hc => ?_, fun hc => ?_, fun hc => ?_⟩
    · exact ifSelected_of (decide_eq_true (hsel.trans (congrArg _ (scanRow_eq_pad.mpr hc)))) _
    · exact ifSelected_of (decide_eq_true (hsel.trans (congrArg _ (scanRow_eq_lf.mpr hc)))) _
    · exact ifSelected_of (decide_eq_true (hsel.trans (congrArg _ (scanRow_of_not_trailer hc)))) _

/-- Settles O11: each row is selected by PHASE; SCAN_IDX and the two counts add up to SRC_LEN in GEOM. -/
theorem geometryRowsWriteTheirRegister : Obligations.GeometryRowsWriteTheirRegister := by
  intro s hp
  have hsel : decide (s.phase = .geom) = true := decide_eq_true hp
  refine ⟨ifSelected_of hsel _, fun hinv => ?_, ?_, ?_⟩
  · have htotal := (hinv.measuring hp).counted.total
    omega
  · exact ⟨fullQuantaOf s.contentLen, toNat_fullQuantaOf _, ifSelected_of hsel _⟩
  · exact ⟨trailingLenOf s.contentLen, toNat_trailingLenOf _, ifSelected_of hsel _⟩

/-- Settles O14: SIZE fits in DST_LEN because DST_CAP does. -/
theorem allocationChecksCapacity : Obligations.AllocationChecksCapacity := by
  intro s hp hlen
  have hexec : exec .pvAlloc s = _ := execPvAlloc_of_valid hp hlen
  refine ⟨fun hover => hexec.trans (if_pos hover), fun hfits => ?_⟩
  have hword : s.size < 2 ^ 32 := hfits.trans_lt s.cfg.dstCap.isLt
  have hsize : (BitVec.ofNat 32 s.size).toNat = s.size := (BitVec.toNat_ofNat ..).trans (Nat.mod_eq_of_lt hword)
  exact ⟨_, hsize, hexec.trans (if_neg hfits.not_gt)⟩

/-- Settles O16: the two agree action by action, the fourth by `runTrailing_eq_execTrailing`. -/
theorem geomStepRunsItsRowsInOrder : Obligations.GeomStepRunsItsRowsInOrder := by
  intro s hp
  simp only [runTrailing_eq_execTrailing]
  exact ifSelected_of (decide_eq_true hp) _

/-- Settles O51: the output has the size of the table, which the capacity bounds. -/
theorem decodedLengthIsTheTableSize : Obligations.DecodedLengthIsTheTableSize := by
  intro cap text out h
  obtain ⟨size, hsize, hcap, hgood, rfl⟩ := decodeText_eq_ok.mp h
  obtain ⟨hvalid, hfloor⟩ := decodedSize?_eq_some.mp hsize
  rw [length_bytesOfBits]
  refine ⟨hsize, hfloor, ?_, hcap, firstBad_eq_none.mp hgood⟩
  simp only [List.mem_cons, List.not_mem_nil, or_false] at hvalid ⊢
  omega

/-- Settles O53: the content and the trailer are the two parts of the input at its last byte that is no trailer byte. -/
theorem trailerIsTheLongestSuffix : Obligations.TrailerIsTheLongestSuffix := by
  intro text
  refine ⟨(contentOf_append_trailerOf text).symm, fun c hc => ?_, fun c hc => ?_, length_contentOf text, rfl,
    lfOf_eq_countP text, ?_⟩
  · exact isTrailerByte_iff.mp (isTrailerByte_of_mem_trailerOf hc)
  · exact not_or.mp (mt isTrailerByte_iff.mpr (not_isTrailerByte_of_getLast?_contentOf hc))
  · calc contentLenOf text + padOf text + lfOf text
        = (contentOf text ++ trailerOf text).length := by
          rw [Nat.add_assoc, padOf_add_lfOf, List.length_append, length_contentOf]
      _ = text.length := by rw [contentOf_append_trailerOf]

/-- Settles O12: each row is `contribute` of its bytes. -/
theorem validTrailingLengthsContribute : Obligations.ValidTrailingLengthsContribute :=
  fun _ => ⟨rfl, rfl, rfl, rfl, rfl⟩

/-- Settles O13: each row is `rejectLength`, whose error entry is that of 60 R186. -/
theorem invalidTrailingLengthsRaise : Obligations.InvalidTrailingLengthsRaise :=
  fun _ => ⟨rfl, rfl, rfl⟩

end Sys2Proof.Proofs
end

section
/-! PROOFS. The ranges of the symbol decoder, the rows its codes decode to and what a symbol row does by the phase, and the
statements of the family 41_symbol_decoder.md. -/

namespace Sys2Proof.Laws

open Sys2Proof.Machine Sys2Proof.Claims

/-! ### The classes and values of the codes (41 R111 to R116) -/

theorem symbolOf_upper {c : Byte} (hlo : 0x41 ≤ c.toNat) (hhi : c.toNat ≤ 0x5A) :
    ∃ x, symbolOf c = .upper x ∧ x.toNat = c.toNat - 0x41 := by
  refine ⟨(c - 0x41#8).setWidth 5, if_pos ⟨hlo, hhi⟩, ?_⟩
  simp only [BitVec.toNat_setWidth, BitVec.toNat_sub, BitVec.toNat_ofNat]
  omega

theorem symbolOf_lower {c : Byte} (hlo : 0x61 ≤ c.toNat) (hhi : c.toNat ≤ 0x7A) :
    ∃ x, symbolOf c = .lower x ∧ x.toNat = c.toNat - 0x61 := by
  have hupper : ¬(0x41#8 ≤ c ∧ c ≤ 0x5A#8) := fun h => absurd (hlo.trans h.2) (by decide)
  refine ⟨(c - 0x61#8).setWidth 5, (if_neg hupper).trans (if_pos ⟨hlo, hhi⟩), ?_⟩
  simp only [BitVec.toNat_setWidth, BitVec.toNat_sub, BitVec.toNat_ofNat]
  omega

theorem symbolOf_digit {c : Byte} (hlo : 0x32 ≤ c.toNat) (hhi : c.toNat ≤ 0x37) :
    ∃ x, symbolOf c = .digit x ∧ x.toNat = c.toNat - 0x32 + 26 := by
  have hupper : ¬(0x41#8 ≤ c ∧ c ≤ 0x5A#8) := fun h => absurd (le_trans h.1 hhi) (by decide)
  have hlower : ¬(0x61#8 ≤ c ∧ c ≤ 0x7A#8) := fun h => absurd (le_trans h.1 hhi) (by decide)
  refine ⟨(c - 0x32#8 + 26#8).setWidth 5,
    (if_neg hupper).trans ((if_neg hlower).trans (if_pos ⟨hlo, hhi⟩)), ?_⟩
  simp only [BitVec.toNat_setWidth, BitVec.toNat_add, BitVec.toNat_sub, BitVec.toNat_ofNat]
  omega

theorem symbolOf_invalid {c : Byte} (hupper : ¬(0x41 ≤ c.toNat ∧ c.toNat ≤ 0x5A))
    (hlower : ¬(0x61 ≤ c.toNat ∧ c.toNat ≤ 0x7A)) (hdigit : ¬(0x32 ≤ c.toNat ∧ c.toNat ≤ 0x37))
    (hpad : c.toNat ≠ 0x3D) (hlf : c.toNat ≠ 0x0A) : symbolOf c = .invalid := by
  have hpad' : c ≠ 0x3D#8 := fun h => hpad (congrArg BitVec.toNat h)
  have hlf' : c ≠ 0x0A#8 := fun h => hlf (congrArg BitVec.toNat h)
  simp [symbolOf, BitVec.le_def, hupper, hlower, hdigit, hpad', hlf']

/-- INVALID is the class of one symbol only. -/
theorem symbolOf_of_classOf_invalid {c : Byte} (h : classOf c = .invalid) : symbolOf c = .invalid := by
  unfold classOf at h
  cases hx : symbolOf c <;> simp [hx, Symbol.cls] at h ⊢

/-! ### The rows of the codes (41 section 3) -/

/-- The rows of `n` codes from `lo` on. -/
def codeRows (lo n : Nat) : List Instr := (List.range n).map fun k => decodeSym8 (BitVec.ofNat 8 (lo + k))

theorem codeRows_upper : codeRows 0x41 26 = upperRows := rfl
theorem codeRows_lower : codeRows 0x61 26 = lowerRows := rfl
theorem codeRows_digit : codeRows 0x32 6 = digitRows := rfl

theorem getElem?_codeRows {lo n : Nat} {c : Byte} (hlo : lo ≤ c.toNat) (hhi : c.toNat < lo + n) :
    (codeRows lo n)[c.toNat - lo]? = some (decodeSym8 c) := by
  have hlt : c.toNat - lo < n := by omega
  simp [codeRows, hlt, Nat.add_sub_of_le hlo]

/-- Two codes decode to two rows. -/
theorem decodeSym8_injective : Function.Injective decodeSym8 := by
  intro c d h
  obtain ⟨-, hc⟩ := encode_decodeSym8 c
  obtain ⟨-, hd⟩ := encode_decodeSym8 d
  have hcd := hc.symm.trans ((congrArg encode h).trans hd)
  simpa using hcd

/-! ### The effect of a symbol row (41 R117, log entry 10) -/

/-- A row of format SYM8 presents the symbol of its code. -/
theorem exec_of_encode_sym8 {i : Instr} {c : Byte} (hwf : i.wellFormed = true) (he : encode i = some (.sym8 c))
    (s : State) : exec i s = presentSymbol (symbolOf c) s := by
  cases i
  case symInvalid code =>
    cases he
    rw [symbolOf_of_classOf_invalid (by simpa [Instr.wellFormed] using hwf)]
    rfl
  all_goals cases he <;> rfl

theorem exec_decodeSym8 (c : Byte) (s : State) : exec (decodeSym8 c) s = presentSymbol (symbolOf c) s :=
  exec_of_encode_sym8 (encode_decodeSym8 c).1 (encode_decodeSym8 c).2 s

/-- Where a letter's value goes does not depend on its case (41 R112). -/
theorem presentSymbol_lower (x : Sym) (s : State) : presentSymbol (.lower x) s = presentSymbol (.upper x) s := rfl

/-- Outside SCAN and UNPACK the symbol decoder has no side effect (41 R110). -/
theorem presentSymbol_elsewhere {s : State} (hscan : s.phase ≠ .scan) (hunpack : s.phase ≠ .unpack) (x : Symbol) :
    presentSymbol x s = .next s := by
  unfold presentSymbol
  cases hp : s.phase
  case scan => exact absurd hp hscan
  case unpack => exact absurd hp hunpack
  all_goals rfl

/-- As content a symbol with no value makes the error entry of 60 R186. -/
theorem presentSymbol_content_none {s : State} (hp : s.phase = .unpack) {x : Symbol} (hx : x.value? = none) :
    presentSymbol x s = .next (afterBadCharacter s) := by
  rw [presentSymbol_unpack hp, contentSymbol_none hx]
  rfl

/-- With no byte left every symbol ends the scan (40 R83). -/
theorem presentSymbol_scan_empty {s : State} (hp : s.phase = .scan) (h0 : s.scanIdx = 0#32) (x : Symbol) :
    presentSymbol x s = .next { s with phase := .geom } := by
  rw [presentSymbol_scan hp, scanSymbol, if_pos h0]
  rfl

end Sys2Proof.Laws

namespace Sys2Proof.Proofs

open Sys2Proof.Machine Sys2Proof.Laws

/-- Settles O3: the range gives the symbol, and the rows of a range stand in the order of their codes. -/
theorem letterCodesHaveTheirClassAndValue : Obligations.LetterCodesHaveTheirClassAndValue := by
  refine ⟨fun c hlo hhi => ?_, fun c hlo hhi => ?_⟩
  · obtain ⟨x, hx, hval⟩ := symbolOf_upper hlo hhi
    exact ⟨congrArg Symbol.cls hx, ⟨x, congrArg Symbol.value? hx, hval⟩, _,
      codeRows_upper ▸ getElem?_codeRows hlo (by omega), rfl⟩
  · obtain ⟨x, hx, hval⟩ := symbolOf_lower hlo hhi
    exact ⟨congrArg Symbol.cls hx, ⟨x, congrArg Symbol.value? hx, hval⟩, _,
      codeRows_lower ▸ getElem?_codeRows hlo (by omega), rfl⟩

/-- Settles O4: the digits as the letters, `=` and LF as the codes they are, and what no range takes is INVALID. -/
theorem otherCodesHaveTheirClass : Obligations.OtherCodesHaveTheirClass := by
  refine ⟨fun c hlo hhi => ?_, fun c hc => ?_, fun c hc => ?_, fun c hupper hlower hdigit hpad hlf => ?_⟩
  · obtain ⟨x, hx, hval⟩ := symbolOf_digit hlo hhi
    exact ⟨congrArg Symbol.cls hx, ⟨x, congrArg Symbol.value? hx, hval⟩, _,
      codeRows_digit ▸ getElem?_codeRows hlo (by omega), rfl⟩
  · obtain rfl : c = 0x3D#8 := BitVec.eq_of_toNat_eq hc
    exact ⟨rfl, rfl, rfl⟩
  · obtain rfl : c = 0x0A#8 := BitVec.eq_of_toNat_eq hc
    exact ⟨rfl, rfl, rfl⟩
  · have hx := symbolOf_invalid hupper hlower hdigit hpad hlf
    have hclass : classOf c = .invalid := congrArg Symbol.cls hx
    exact ⟨hclass, congrArg Symbol.value? hx, congrArg Except.ok (RoundTrip.decodeSym8_of_invalid c hclass)⟩

/-- Settles O8: the two codes give two rows, which present symbols of one value. -/
theorem lowercaseActsAsUppercase : Obligations.LowercaseActsAsUppercase := by
  intro c hlo hhi
  have hlower : (c + 0x20#8).toNat = c.toNat + 0x20 := by simp; omega
  refine ⟨decodeSym8 c, decodeSym8 (c + 0x20#8), rfl, rfl, fun h => ?_, fun s => ?_⟩
  · have hcode := congrArg BitVec.toNat (decodeSym8_injective h)
    omega
  · obtain ⟨x, hx, hxval⟩ := symbolOf_upper hlo hhi
    obtain ⟨y, hy, hyval⟩ := symbolOf_lower (c := c + 0x20#8) (by omega) (by omega)
    obtain rfl : x = y := BitVec.eq_of_toNat_eq (by omega)
    rw [exec_decodeSym8, exec_decodeSym8, hx, hy, presentSymbol_lower]

/-- Settles O6: the two rows present the symbols PAD and LF, which have no value. -/
theorem padAndNewlineRowsRunByPosition : Obligations.PadAndNewlineRowsRunByPosition := by
  intro s
  have hpad : exec .symPad s = presentSymbol .pad s := exec_decodeSym8 0x3D#8 s
  have hlf : exec .symLf s = presentSymbol .lf s := exec_decodeSym8 0x0A#8 s
  rw [hpad, hlf]
  refine ⟨fun hp hleft => ?_, fun hp h0 => ?_, fun hp => ?_, fun hscan hunpack => ?_⟩
  · simp only [presentSymbol_scan hp, scanSymbol, if_neg hleft]
    exact ⟨rfl, rfl⟩
  · exact ⟨presentSymbol_scan_empty hp h0 _, presentSymbol_scan_empty hp h0 _⟩
  · exact ⟨presentSymbol_content_none hp rfl, presentSymbol_content_none hp rfl⟩
  · exact ⟨presentSymbol_elsewhere hscan hunpack _, presentSymbol_elsewhere hscan hunpack _⟩

/-- Settles O7: the row presents the symbol INVALID whatever its code, and the scan ends at it, with bytes left or none. -/
theorem invalidRowRunsByPosition : Obligations.InvalidRowRunsByPosition := by
  intro code s
  have hexec : exec (.symInvalid code) s = presentSymbol .invalid s := rfl
  rw [hexec]
  refine ⟨fun hp => ?_, fun hp => presentSymbol_content_none hp rfl, fun hscan hunpack =>
    presentSymbol_elsewhere hscan hunpack _⟩
  by_cases h0 : s.scanIdx = 0#32
  · exact presentSymbol_scan_empty hp h0 _
  · rw [presentSymbol_scan hp, scanSymbol, if_neg h0]
    rfl

end Sys2Proof.Proofs
end

section
/-! PROOFS. The bits of the quantum word and of the shift form (42 R130), each a bit of one character, and the statements of
the family 42_quantum_unpacker.md. -/

namespace Sys2Proof.Laws

open Sys2Proof.Machine Sys2Proof.Claims

/-! ### Bit `p` of a quantum, most significant first, is bit `p mod 5` of character `p / 5` (42 R130) -/

theorem getMsbD_quantumWord (n : Nat) (v : Vector Sym 8) {p : Nat} (hp : p < 40) :
    (quantumWord n v).getMsbD p = (laneOf n v ⟨p / 5, by omega⟩).getMsbD (p % 5) := by
  refine BitVec.getMsbD_append.trans ?_
  simp only [BitVec.getMsbD_append]
  interval_cases p <;> simp

theorem getMsbD_quantumByte (x : BitVec 40) {k i : Nat} (hk : k < 5) (hi : i < 8) :
    (quantumByte x k).getMsbD i = x.getMsbD (8 * k + i) := by
  have hin : 8 * k + i < 40 := by omega
  have hbit : 32 - 8 * k + (7 - i) = 39 - (8 * k + i) := by omega
  have hlow : 7 - i < 8 := by omega
  simp [quantumByte, BitVec.getMsbD, hi, hin, hlow, hbit]

theorem getMsbD_shiftByte (v : Vector Sym 8) {k i : Nat} (hk : k < 5) (hi : i < 8) :
    (shiftByte v k).getMsbD i = v[(8 * k + i) / 5].getMsbD ((8 * k + i) % 5) := by
  interval_cases k <;> interval_cases i <;> simp [shiftByte, BitVec.getMsbD]

/-- A byte whose bits all come from characters that are present has the shift form. -/
theorem quantumByte_eq_shiftByte {n k : Nat} (v : Vector Sym 8) (hk : k < 5) (hn : 8 * (k + 1) ≤ 5 * n) :
    quantumByte (quantumWord n v) k = shiftByte v k := by
  refine BitVec.eq_of_getMsbD_eq fun i hi => ?_
  have hpresent : (8 * k + i) / 5 < n := by omega
  rw [getMsbD_quantumByte _ hk hi, getMsbD_quantumWord _ _ (by omega), getMsbD_shiftByte v hk hi]
  simp [laneOf, hpresent]

/-- `m(n)` is at most five bytes, all of whose bits come from `n` characters. -/
theorem bytesOut_le (n : Nat) : bytesOut n ≤ 5 ∧ 8 * bytesOut n ≤ 5 * n := by
  unfold bytesOut
  split <;> omega

theorem quantumBytes_eq_shiftBytes (n : Nat) (v : Vector Sym 8) :
    quantumBytes n v = (List.range (bytesOut n)).map (shiftByte v) := by
  obtain ⟨hfive, hbits⟩ := bytesOut_le n
  refine List.map_congr_left fun k hk => ?_
  have hlt : k < bytesOut n := List.mem_range.mp hk
  exact quantumByte_eq_shiftByte v (by omega) (by omega)

/-! ### The discarded bits (42 R136) -/

/-- The bits above the discarded ones agree: in a character before the last every bit, in the last the first `5 - d`. -/
theorem getMsbD_of_agree {n d i : Nat} {v w : Vector Sym 8} (h : AgreeButDiscarded n d v w) (j : Fin 8)
    (hj : j.val + 1 < n ∨ j.val + 1 = n ∧ i + d < 5) : v[j].getMsbD i = w[j].getMsbD i := by
  obtain hbefore | ⟨hlast, hkept⟩ := hj
  · rw [(h j).1 hbefore]
  · have hbit := congrArg (BitVec.getMsbD · (i + d)) ((h j).2 hlast)
    simpa [BitVec.getMsbD_ushiftRight, hkept] using hbit

/-- `5n mod 8` bits are left after the whole bytes of `n` characters, and no whole byte has one of them. -/
theorem shiftByte_of_agree {n k : Nat} {v w : Vector Sym 8} (h : AgreeButDiscarded n (5 * n % 8) v w) (hk : k < 5)
    (hn : 8 * (k + 1) ≤ 5 * n) : shiftByte v k = shiftByte w k := by
  refine BitVec.eq_of_getMsbD_eq fun i hi => ?_
  have hwhole : k + 1 ≤ 5 * n / 8 := by omega
  have hkept : (8 * k + i) / 5 + 1 < n ∨ (8 * k + i) / 5 + 1 = n ∧ (8 * k + i) % 5 + 5 * n % 8 < 5 := by omega
  rw [getMsbD_shiftByte v hk hi, getMsbD_shiftByte w hk hi]
  exact getMsbD_of_agree h ⟨(8 * k + i) / 5, by omega⟩ hkept

theorem quantumBytes_of_agree {n : Nat} {v w : Vector Sym 8} (h : AgreeButDiscarded n (5 * n % 8) v w) :
    quantumBytes n v = quantumBytes n w := by
  obtain ⟨hfive, hbits⟩ := bytesOut_le n
  rw [quantumBytes_eq_shiftBytes, quantumBytes_eq_shiftBytes]
  refine List.map_congr_left fun k hk => ?_
  have hlt : k < bytesOut n := List.mem_range.mp hk
  exact shiftByte_of_agree h (by omega) (by omega)

/-! ### The unpack rows with room in DST (42 R137) -/

theorem exec_unpackRow_of_room {row : Instr × Nat × Nat} (hrow : row ∈ unpackRows) {s : State}
    (hroom : s.dstCursor.toNat + row.2.2 ≤ s.cfg.dstCap.toNat) :
    exec row.1 s = .next { s with dst := s.dst.writeRun s.dstCursor.toNat (quantumBytes row.2.1 s.v) } := by
  obtain ⟨hexec, hbytes⟩ := exec_unpackRow hrow s
  refine hexec.trans (storeBytes_next.mpr ⟨?_, rfl⟩)
  rwa [length_quantumBytes, hbytes]

/-- The rows of the partial quanta with the bits that R136 says they discard. -/
def partialRows : List (Instr × Nat × Nat) :=
  [(.quUnpack7, 7, 3), (.quUnpack5, 5, 1), (.quUnpack4, 4, 4), (.quUnpack2, 2, 2)]

/-- A row of a partial quantum stores the whole bytes in its characters' bits and discards the rest. -/
theorem unpackRow_of_partialRow {row : Instr × Nat × Nat} (hrow : row ∈ partialRows) :
    (row.1, row.2.1, 5 * row.2.1 / 8) ∈ unpackRows ∧ row.2.2 = 5 * row.2.1 % 8 := by
  simp only [partialRows, List.mem_cons, List.not_mem_nil, or_false] at hrow
  obtain rfl | rfl | rfl | rfl := hrow <;> simp [unpackRows]

end Sys2Proof.Laws

namespace Sys2Proof.Proofs

open Sys2Proof.Machine Sys2Proof.Laws

/-- Settles O17: a store of the row's bytes, and those are the bytes of the shift form. -/
theorem unpackRowsEmitTheirBytes : Obligations.UnpackRowsEmitTheirBytes := by
  intro row hrow s hroom
  have hbytes : bytesOut row.2.1 = row.2.2 := (exec_unpackRow hrow s).2
  have hlen : (quantumBytes row.2.1 s.v).length = row.2.2 := (length_quantumBytes _ _).trans hbytes
  refine ⟨_, exec_unpackRow_of_room hrow hroom, fun k hk => ?_, fun a ha => ?_⟩
  · rw [byte?_writeRun_inside _ _ (hk.trans_eq hlen.symm), quantumBytes_eq_shiftBytes, hbytes]
    simp [hk]
  · rw [← hlen] at ha
    exact ⟨read_writeRun_outside _ _ ha, byte?_writeRun_outside _ _ ha⟩

/-- Settles O19: the two states store the same bytes at the same place. -/
theorem discardedBitsAreIgnored : Obligations.DiscardedBitsAreIgnored := by
  intro row hrow s w hagree hroom
  obtain ⟨hunpack, hdiscarded⟩ := unpackRow_of_partialRow hrow
  rw [hdiscarded] at hagree
  refine ⟨_, exec_unpackRow_of_room hunpack hroom, ?_⟩
  rw [quantumBytes_of_agree hagree]
  exact exec_unpackRow_of_room (s := { s with v := w }) hunpack hroom

end Sys2Proof.Proofs
end

section
/-! PROOFS. Lists of bits as numbers and as bytes, the bits that the conventional encoder writes, and the statements of
the family 43_decode_transaction.md about the normative function `decode` alone. -/

namespace Sys2Proof.Laws

open Sys2Proof.Machine

/-! ### The trailer of an input that is given in two parts (40 R80) -/

/-- Trailer bytes at the end belong to the trailer. -/
theorem trailerOf_append {a t : List Byte} (ht : ∀ c ∈ t, isTrailerByte c = true) :
    trailerOf (a ++ t) = trailerOf a ++ t := by
  have htr : ∀ c ∈ t.reverse, isTrailerByte c = true := fun c hc => ht c (List.mem_reverse.mp hc)
  rw [trailerOf, trailerOf, List.reverse_append, List.takeWhile_append_of_pos htr, List.reverse_append,
    List.reverse_reverse]

theorem trailerOf_eq_nil {a : List Byte} (ha : ∀ c, a.getLast? = some c → isTrailerByte c = false) :
    trailerOf a = [] := by
  refine List.rtakeWhile_eq_nil_iff.mpr fun hne => ?_
  rw [ha _ (List.getLast?_eq_some_getLast hne)]
  decide

/-- Before the trailer bytes at the end stands the content, if it does not end in one itself. -/
theorem contentOf_append {a t : List Byte} (ht : ∀ c ∈ t, isTrailerByte c = true)
    (ha : ∀ c, a.getLast? = some c → isTrailerByte c = false) : contentOf (a ++ t) = a := by
  have hsplit := contentOf_append_trailerOf (a ++ t)
  rw [trailerOf_append ht, trailerOf_eq_nil ha] at hsplit
  exact List.append_cancel_right hsplit

/-- An acceptable character is no trailer byte (41 R117). -/
theorem not_isTrailerByte_of_isContentByte {c : Byte} (h : isContentByte c = true) : isTrailerByte c = false := by
  refine Bool.eq_false_iff.mpr fun ht => ?_
  obtain rfl | rfl := isTrailerByte_iff.mp ht <;> exact absurd h (by decide)

/-! ### Bits of a number, most significant first -/

/-- The number whose bits are these, most significant first; `byteOfBits` and `groupValue` are made of it. -/
def natOfBits (bs : List Bool) : Nat := bs.foldl (fun acc b => 2 * acc + b.toNat) 0

theorem natOfBits_concat (bs : List Bool) (b : Bool) : natOfBits (bs ++ [b]) = 2 * natOfBits bs + b.toNat := by
  simp [natOfBits]

@[simp] theorem length_bitsOf (n x : Nat) : (bitsOf n x).length = n := by simp [bitsOf]

theorem getElem_bitsOf {n x i : Nat} (h : i < (bitsOf n x).length) : (bitsOf n x)[i] = x.testBit (n - 1 - i) := by
  simp [bitsOf]

/-- The last bit is the lowest one. -/
theorem bitsOf_succ (n x : Nat) : bitsOf (n + 1) x = bitsOf n (x / 2) ++ [x.testBit 0] := by
  rw [bitsOf, List.range_succ, List.map_append]
  refine congrArg₂ (· ++ ·) (List.map_congr_left fun i hi => ?_) (by simp)
  have hlt : i < n := List.mem_range.mp hi
  rw [Nat.testBit_div_two, show n - 1 - i + 1 = n + 1 - 1 - i by omega]

theorem bitsOf_natOfBits (bs : List Bool) : bitsOf bs.length (natOfBits bs) = bs := by
  induction bs using List.reverseRecOn with
  | nil => rfl
  | append_singleton bs b ih =>
    have hhalf : natOfBits (bs ++ [b]) / 2 = natOfBits bs := by
      rw [natOfBits_concat]; cases b <;> simp; omega
    have hlow : (natOfBits (bs ++ [b])).testBit 0 = b := by
      rw [natOfBits_concat]; cases b <;> simp
    rw [List.length_append, List.length_singleton, bitsOf_succ, hhalf, hlow, ih]

theorem natOfBits_bitsOf (n x : Nat) : natOfBits (bitsOf n x) = x % 2 ^ n := by
  induction n generalizing x with
  | zero => simp [bitsOf, natOfBits, Nat.mod_one]
  | succ n ih =>
    have hlow : (x.testBit 0).toNat = x % 2 := by simpa using Nat.toNat_testBit x 0
    rw [bitsOf_succ, natOfBits_concat, ih, hlow, Nat.pow_succ', Nat.mod_mul, Nat.add_comm]

theorem natOfBits_lt (bs : List Bool) : natOfBits bs < 2 ^ bs.length := by
  have h := natOfBits_bitsOf bs.length (natOfBits bs)
  rw [bitsOf_natOfBits] at h
  exact h ▸ Nat.mod_lt _ (by positivity)

/-! ### Bytes of a bit string -/

theorem byteOfBits_eq (bs : List Bool) : byteOfBits bs = BitVec.ofNat 8 (natOfBits bs) := rfl

theorem byteOfBits_bitsOf (b : Byte) : byteOfBits (bitsOf 8 b.toNat) = b := by
  have h : natOfBits (bitsOf 8 b.toNat) = b.toNat := (natOfBits_bitsOf 8 _).trans (Nat.mod_eq_of_lt b.isLt)
  rw [byteOfBits_eq, h, BitVec.ofNat_toNat, BitVec.setWidth_eq]

/-- The first byte is that of the first eight bits. -/
theorem bytesOfBits_succ (size : Nat) (x : List Bool) :
    bytesOfBits (size + 1) x = byteOfBits (x.take 8) :: bytesOfBits size (x.drop 8) := by
  simp [bytesOfBits, List.range_succ_eq_map, Nat.mul_add, Nat.add_comm 8, Function.comp_def]

/-- The bits of a byte sequence. -/
def bitsOfBytes (bs : List Byte) : List Bool := bs.flatMap fun b => bitsOf 8 b.toNat

@[simp] theorem length_bitsOfBytes (bs : List Byte) : (bitsOfBytes bs).length = 8 * bs.length := by
  simp [bitsOfBytes, List.length_flatMap, Nat.mul_comm]

/-- The whole bytes of a byte sequence's bits are that sequence, whatever bits follow. -/
theorem bytesOfBits_bitsOfBytes (bs : List Byte) (x : List Bool) :
    bytesOfBits bs.length (bitsOfBytes bs ++ x) = bs := by
  induction bs with
  | nil => rfl
  | cons b bs ih =>
    have hbits : bitsOfBytes (b :: bs) ++ x = bitsOf 8 b.toNat ++ (bitsOfBytes bs ++ x) := by
      simp [bitsOfBytes]
    have hlen : (bitsOf 8 b.toNat).length = 8 := length_bitsOf 8 _
    rw [List.length_cons, bytesOfBits_succ, hbits, List.take_left' hlen, List.drop_left' hlen, byteOfBits_bitsOf, ih]

/-! ### Characters and their bits (43 R150) -/

theorem contentBits_append (a b : List Byte) : contentBits (a ++ b) = contentBits a ++ contentBits b :=
  List.flatMap_append

@[simp] theorem length_contentBits (content : List Byte) : (contentBits content).length = 5 * content.length := by
  simp [contentBits, List.length_flatMap, Nat.mul_comm]

/-- The conventional character of a 5-bit value has that value (93 K3). -/
theorem valueOf_charOf {x : Nat} (h : x < 32) : valueOf (charOf x) = some (BitVec.ofNat 5 x) := by
  interval_cases x <;> rfl

/-! ### One group of the conventional encoder (93 K3) -/

/-- The bits of a group as the encoder reads them: zero bits follow. -/
def groupBits (group : List Byte) : List Bool := bitsOfBytes group ++ List.replicate 40 false

/-- The characters of a group without its padding. -/
def groupChars (group : List Byte) : List Byte :=
  (List.range (charsFor group.length)).map fun j => charOf (groupValue group j)

theorem encodeGroup_eq (group : List Byte) :
    encodeGroup group = groupChars group ++ List.replicate (8 - charsFor group.length) 0x3D#8 := rfl

/-- A full group has no padding. -/
theorem encodeGroup_full {group : List Byte} (h : group.length = 5) : encodeGroup group = groupChars group := by
  simp [encodeGroup_eq, h, charsFor]

theorem length_groupChars (group : List Byte) : (groupChars group).length = charsFor group.length := by
  simp [groupChars]

theorem groupValue_eq (group : List Byte) (j : Nat) :
    groupValue group j = natOfBits (((groupBits group).drop (5 * j)).take 5) := rfl

/-- Five bits of a group are there for each of its characters. -/
theorem length_chunk {group : List Byte} {j : Nat} (hj : j < charsFor group.length) :
    (((groupBits group).drop (5 * j)).take 5).length = 5 := by
  have hchars : charsFor group.length = (8 * group.length + 4) / 5 := rfl
  simp [groupBits]
  omega

theorem valueOf_charOf_groupValue {group : List Byte} {j : Nat} (hj : j < charsFor group.length) :
    valueOf (charOf (groupValue group j)) = some (BitVec.ofNat 5 (groupValue group j)) := by
  have hlt := natOfBits_lt (((groupBits group).drop (5 * j)).take 5)
  rw [length_chunk hj] at hlt
  exact valueOf_charOf hlt

theorem isContentByte_of_mem_groupChars {group : List Byte} {c : Byte} (h : c ∈ groupChars group) :
    isContentByte c = true := by
  obtain ⟨j, hj, rfl⟩ := List.mem_map.mp h
  rw [isContentByte, valueOf_charOf_groupValue (List.mem_range.mp hj)]
  rfl

/-- Pieces of `w` bits, one after the other, are the bits they were cut from. -/
theorem flatMap_drop_take {α : Type} (w m : Nat) (l : List α) :
    ((List.range m).flatMap fun j => (l.drop (w * j)).take w) = l.take (w * m) := by
  induction m with
  | zero => simp
  | succ m ih => simp [List.range_succ, ih, Nat.mul_succ, List.take_add]

/-- The characters of a group carry its bits in order. -/
theorem contentBits_groupChars (group : List Byte) :
    contentBits (groupChars group) = (groupBits group).take (5 * charsFor group.length) := by
  rw [← flatMap_drop_take, groupChars, contentBits, List.flatMap_map]
  refine List.flatMap_congr fun j hj => ?_
  have hlt : j < charsFor group.length := List.mem_range.mp hj
  have hlen := length_chunk hlt
  have hbits := bitsOf_natOfBits (((groupBits group).drop (5 * j)).take 5)
  have hbound := natOfBits_lt (((groupBits group).drop (5 * j)).take 5)
  rw [hlen] at hbits hbound
  rw [valueOf_charOf_groupValue hlt, groupValue_eq, Option.getD_some, BitVec.toNat_ofNat,
    Nat.mod_eq_of_lt hbound, hbits]

/-! ### The conventional encoder -/

/-- These characters carry the bits of a byte sequence and zero bits to fill the last character. -/
structure Carries (chars bs : List Byte) : Prop where
  acceptable : ∀ c ∈ chars, isContentByte c = true
  length : chars.length = charsFor bs.length
  bits : ∃ m, contentBits chars = bitsOfBytes bs ++ List.replicate m false

theorem carries_groupChars (group : List Byte) : Carries (groupChars group) group where
  acceptable _ hc := isContentByte_of_mem_groupChars hc
  length := length_groupChars group
  bits := by
    have hchars : charsFor group.length = (8 * group.length + 4) / 5 := rfl
    refine ⟨5 * charsFor group.length - 8 * group.length, ?_⟩
    rw [contentBits_groupChars, groupBits, List.take_append, List.take_of_length_le (by simp; omega),
      List.take_replicate, length_bitsOfBytes, Nat.min_eq_left (by omega)]

/-- A full group leaves no zero bits, so the characters of what follows carry on where it ends. -/
theorem Carries.full_group {group chars bs : List Byte} (hgroup : group.length = 5) (h : Carries chars bs) :
    Carries (groupChars group ++ chars) (group ++ bs) := by
  have hfull : contentBits (groupChars group) = bitsOfBytes group := by
    rw [contentBits_groupChars, groupBits, hgroup]
    exact List.take_left' (by simp [hgroup, charsFor])
  obtain ⟨m, hm⟩ := h.bits
  refine ⟨fun c hc => ?_, ?_, m, ?_⟩
  · exact (List.mem_append.mp hc).elim isContentByte_of_mem_groupChars (h.acceptable c)
  · rw [List.length_append, List.length_append, h.length, length_groupChars, hgroup, charsFor, charsFor, charsFor]
    omega
  · rw [contentBits_append, hfull, hm, bitsOfBytes, bitsOfBytes, bitsOfBytes, List.flatMap_append, List.append_assoc]

/-- The encoder writes characters that carry the byte sequence, then padding. -/
theorem encodeText_carries (bs : List Byte) :
    ∃ chars pad, encodeText bs = chars ++ List.replicate pad 0x3D#8 ∧ Carries chars bs := by
  induction bs using encodeText.induct with
  | case1 => exact ⟨[], 0, rfl, carries_groupChars []⟩
  | case2 b0 b1 b2 b3 b4 rest ih =>
    obtain ⟨chars, pad, henc, hcarries⟩ := ih
    refine ⟨groupChars [b0, b1, b2, b3, b4] ++ chars, pad, ?_, hcarries.full_group rfl⟩
    rw [encodeText, encodeGroup_full rfl, henc, List.append_assoc]
  | case3 group hnil hlong =>
    exact ⟨groupChars group, _, by rw [encodeText, encodeGroup_eq] <;> assumption, carries_groupChars group⟩

/-- `decode` reads a byte sequence back from characters that carry it, whatever trailer follows. -/
theorem decodeText_of_carries {cap : Nat} {chars bs t : List Byte} (h : Carries chars bs) (hcap : bs.length ≤ cap)
    (ht : ∀ c ∈ t, isTrailerByte c = true) : decodeText cap (chars ++ t) = .ok bs := by
  have hcontent : contentOf (chars ++ t) = chars := contentOf_append ht fun c hc =>
    not_isTrailerByte_of_isContentByte (h.acceptable c (List.mem_of_getLast? hc))
  have hlen : contentLenOf (chars ++ t) = (8 * bs.length + 4) / 5 := by
    rw [← length_contentOf, hcontent, h.length, charsFor]
  refine decodeText_eq_ok.mpr ⟨bs.length, decodedSize?_eq_some.mpr ?_, hcap, ?_, ?_⟩
  · rw [hlen]
    simp only [List.mem_cons, List.not_mem_nil, or_false]
    omega
  · rw [hcontent]
    exact firstBad_eq_none.mpr h.acceptable
  · obtain ⟨m, hm⟩ := h.bits
    rw [hcontent, hm, bytesOfBits_bitsOfBytes]

end Sys2Proof.Laws

namespace Sys2Proof.Proofs

open Sys2Proof.Machine Sys2Proof.Laws

/-- Settles O50: the encoder's characters carry the sequence group by group, and padding and the newline are trailer. -/
theorem decodeInvertsTheConventionalEncoder : Obligations.DecodeInvertsTheConventionalEncoder := by
  intro cap bs hcap
  obtain ⟨chars, pad, henc, hcarries⟩ := encodeText_carries bs
  have hpad : ∀ c ∈ List.replicate pad 0x3D#8, isTrailerByte c = true := fun c hc =>
    isTrailerByte_iff.mpr (.inl (List.eq_of_mem_replicate hc))
  rw [henc, List.append_assoc]
  refine ⟨decodeText_of_carries hcarries hcap hpad, decodeText_of_carries hcarries hcap fun c hc => ?_⟩
  rcases List.mem_append.mp hc with hc | hc
  · exact hpad c hc
  · exact isTrailerByte_iff.mpr (.inr (List.mem_singleton.mp hc))

/-- Settles O54: such an input is all trailer, so its content carries the empty sequence. -/
theorem trailerOnlyInputsDecodeToNothing : Obligations.TrailerOnlyInputsDecodeToNothing := by
  intro cap text h
  exact decodeText_of_carries (chars := []) (carries_groupChars []) (Nat.zero_le cap) fun c hc =>
    isTrailerByte_iff.mpr (h c hc)

end Sys2Proof.Proofs
end

section
/-! PROOFS. The bytes of one quantum as whole bytes of its characters' bits, and the statements of the family
43_decode_transaction.md about single steps: the commands, the GEOM step and the UNPACK step. -/

namespace Sys2Proof.Laws

open Sys2Proof.Machine Sys2Proof.Safety Sys2Proof.Claims

/-! ### The GEOM step -/

theorem decodedSize?_eq_none {c : Nat} : decodedSize? c = none ↔ c % 8 ∈ [1, 3, 6] := by
  rw [← not_iff_not, ← ne_eq, Option.ne_none_iff_exists']
  simp only [decodedSize?_eq_some, exists_and_left, exists_eq, and_true]

/-- An error entry, and the end of the step after it, leave the mark of 60 R186. -/
theorem raised_stepEnded (s : State) (e : ErrCode) (pos : Word) : Raised e pos.toNat (s.raised e pos).stepEnded :=
  ⟨rfl, rfl, rfl, rfl, fun _ => rfl⟩

/-! ### Bit `p` of a content, most significant first, is bit `p mod 5` of character `p / 5` (43 R150) -/

theorem getElem?_contentBits {cs : List Byte} {p : Nat} (hp : p / 5 < cs.length) :
    (contentBits cs)[p]? = some (((valueOf cs[p / 5]).getD 0).getMsbD (p % 5)) := by
  induction cs generalizing p with
  | nil => simp at hp
  | cons c cs ih =>
    have hlen : (bitsOf 5 ((valueOf c).getD 0).toNat).length = 5 := length_bitsOf 5 _
    rw [contentBits, List.flatMap_cons]
    rcases Nat.lt_or_ge p 5 with hfirst | hlater
    · have hhead : p / 5 = 0 := by omega
      have hbit : p % 5 = p := by omega
      rw [List.getElem?_append_left (by omega), List.getElem?_eq_getElem (by omega), getElem_bitsOf]
      simp [hhead, hbit, BitVec.getMsbD, hfirst, BitVec.getLsbD]
    · obtain ⟨q, rfl⟩ := Nat.exists_eq_add_of_le' hlater
      have hq : q / 5 < cs.length := by simp at hp; omega
      rw [List.getElem?_append_right (by omega), hlen, Nat.add_sub_cancel]
      refine (ih hq).trans ?_
      simp

/-- Bit `i` of the byte of eight bits, most significant first. -/
theorem getMsbD_byteOfBits {l : List Bool} (hl : l.length = 8) {i : Nat} (hi : i < 8) :
    l[i]? = some ((byteOfBits l).getMsbD i) := by
  have hbits := bitsOf_natOfBits l
  rw [hl] at hbits
  have hlow : 7 - i < 8 := by omega
  rw [List.getElem?_eq_getElem (by omega), ← List.getElem_of_eq hbits (by simpa using hi), getElem_bitsOf,
    byteOfBits_eq, BitVec.getMsbD, BitVec.getLsbD_ofNat]
  simp [hi, hlow]

/-- Byte `k` of a quantum has the bits of its characters from `8 * k` on. -/
theorem quantumByte_lanesOf {cs : List Byte} (hcs : cs.length ≤ 8) {k : Nat} (hk : k < 5)
    (hn : 8 * (k + 1) ≤ 5 * cs.length) :
    quantumByte (quantumWord cs.length (lanesOf cs)) k = byteOfBits (((contentBits cs).drop (8 * k)).take 8) := by
  refine BitVec.eq_of_getMsbD_eq fun i hi => Option.some_injective _ ?_
  have hpresent : (8 * k + i) / 5 < cs.length := by omega
  have hlane : (lanesOf cs)[(8 * k + i) / 5] = (valueOf cs[(8 * k + i) / 5]).getD 0 := by
    simp [lanesOf, hpresent]
  rw [← getMsbD_byteOfBits (by simp; omega) hi, List.getElem?_take_of_lt hi, List.getElem?_drop,
    getElem?_contentBits hpresent, getMsbD_quantumByte _ hk hi, getMsbD_quantumWord _ _ (by omega), ← hlane]
  simp [laneOf, hpresent]

/-- An UNPACK step emits the whole bytes of the bits of its quantum (42 R130, 43 R158). -/
theorem emitted_eq_bytesOfBits (s : State) :
    emitted s = bytesOfBits (bytesOut s.quantumLength) (contentBits (quantumChars s)) := by
  obtain ⟨hfive, hbits⟩ := bytesOut_le s.quantumLength
  refine List.map_congr_left fun k hk => ?_
  have hlt : k < bytesOut s.quantumLength := List.mem_range.mp hk
  have hquantum := quantumByte_lanesOf (cs := quantumChars s) (k := k) (by simpa using quantumLength_le s) (by omega)
    (by rw [length_quantumChars]; omega)
  rwa [length_quantumChars] at hquantum

/-! ### The UNPACK step on a quantum that lies in the input -/

theorem readable_quantum {s : State} (h : QuantumReadable s) :
    Readable s s.srcCursor.toNat s.quantumLength := by
  obtain ⟨-, hin, hsrc⟩ := h
  intro i hi
  omega

/-- A quantum with a character has content left. -/
theorem srcCursor_ne_of_quantumLength {s : State} (h : 0 < s.quantumLength) : s.srcCursor ≠ s.contentLen := by
  intro hend
  simp [State.quantumLength, hend] at h

theorem firstBad_lt {cs : List Byte} {j : Nat} (h : firstBad cs = some j) : j < cs.length := by
  induction cs generalizing j with
  | nil => simp [firstBad] at h
  | cons c cs ih =>
    rw [firstBad] at h
    split at h
    · obtain ⟨i, hi, rfl⟩ := Option.map_eq_some_iff.mp h
      simpa using ih hi
    · cases h
      simp

theorem toNat_unpacked_srcCursor {s : State} (h : s.srcCursor.toNat + s.quantumLength < 2 ^ 32) :
    (unpacked s).srcCursor.toNat = s.srcCursor.toNat + s.quantumLength := by
  show (s.srcCursor + BitVec.ofNat 32 s.quantumLength).toNat = _
  rw [BitVec.toNat_add, BitVec.toNat_ofNat]
  omega

theorem toNat_unpacked_dstCursor {s : State} (hlen : s.quantumLength ∈ [8, 7, 5, 4, 2])
    (h : s.dstCursor.toNat + 5 * s.quantumLength / 8 < 2 ^ 32) :
    (unpacked s).dstCursor.toNat = s.dstCursor.toNat + 5 * s.quantumLength / 8 := by
  show (s.dstCursor + BitVec.ofNat 32 (bytesOut s.quantumLength)).toNat = _
  rw [bytesOut_of_mem hlen, BitVec.toNat_add, BitVec.toNat_ofNat]
  omega

theorem unpacked_dst (s : State) : (unpacked s).dst = s.dst.writeRun s.dstCursor.toNat (emitted s) := rfl

/-! ### The rows that the bits of a quantum decode to -/

/-- The SYM8 row of a byte does what its symbol does, so the run of the rows is the character loop. -/
theorem runSymbols_eq_loadLanes (k : Nat) : runSymbols k = loadLanes k := by
  induction k with
  | zero => rfl
  | succ k ih =>
    funext s
    cases hbyte : s.srcByte (s.srcCursor.toNat + s.lane.toNat) with
    | error f => simp only [runSymbols, loadLanes, hbyte]
    | ok c => simp only [runSymbols, loadLanes, hbyte, decode, exec_decodeSym8, ih]

/-- The QLEN4 row of a length of at most 8 is the operation of that length. -/
theorem runQuantum_eq_execQuantum {n : Nat} (hn : n ≤ 8) : runQuantum n = execQuantum n := by
  funext s
  interval_cases n <;> rfl

end Sys2Proof.Laws

namespace Sys2Proof.Proofs

open Sys2Proof.Machine Sys2Proof.Safety Sys2Proof.Claims Sys2Proof.Laws

/-- Settles O15: no size is an invalid length; a size is compared with DST_CAP. -/
theorem geomStepMeasuresAndDecides : Obligations.GeomStepMeasuresAndDecides := by
  intro s hp
  have hquanta : (measured s).fullQuanta.toNat = s.scanIdx.toNat / 8 := toNat_fullQuantaOf _
  have htrailing : (measured s).trailingLen.toNat = s.scanIdx.toNat % 8 := toNat_trailingLenOf _
  cases hsize : decodedSize? s.scanIdx.toNat with
  | none =>
    have hbad := decodedSize?_eq_none.mp hsize
    exact ⟨_, execStepGeom_badLength hp hsize, ⟨rfl, rfl, rfl, rfl, rfl, rfl, rfl⟩, rfl, hquanta, htrailing, rfl, rfl,
      fun _ => raised_stepEnded (measured s) _ 0#32, (absurd hbad ·), (absurd hbad ·)⟩
  | some size =>
    have hstep : exec .stepGeom s = _ := execStepGeom_size hp hsize
    obtain ⟨hvalid, rfl⟩ := decodedSize?_eq_some.mp hsize
    by_cases hcap : s.cfg.dstCap.toNat < 5 * s.scanIdx.toNat / 8
    · rw [if_pos hcap] at hstep
      exact ⟨_, hstep, ⟨rfl, rfl, rfl, rfl, rfl, rfl, rfl⟩, rfl, hquanta, htrailing, rfl, rfl, (absurd · hvalid),
        fun _ _ => raised_stepEnded (measured s) _ 0#32, fun _ hfits => absurd hcap hfits.not_gt⟩
    · rw [if_neg hcap] at hstep
      have hword : 5 * s.scanIdx.toNat / 8 < 2 ^ 32 := by have := s.cfg.dstCap.isLt; omega
      have hlen : (BitVec.ofNat 32 (5 * s.scanIdx.toNat / 8)).toNat = 5 * s.scanIdx.toNat / 8 :=
        (BitVec.toNat_ofNat ..).trans (Nat.mod_eq_of_lt hword)
      exact ⟨_, hstep, ⟨rfl, rfl, rfl, rfl, rfl, rfl, rfl⟩, rfl, hquanta, htrailing, rfl, rfl, (absurd · hvalid),
        fun _ hover => absurd hover hcap, fun _ _ => ⟨rfl, hlen, rfl, rfl, rfl⟩⟩

/-- Settles O20: the step stores the emitted bytes, which are the whole bytes of the quantum's bits. -/
theorem unpackStepDecodesOneQuantum : Obligations.UnpackStepDecodesOneQuantum := by
  intro s ⟨hread, hlen, hroom⟩ hgood
  have hbytes := bytesOut_of_mem hlen
  have hemitted : (emitted s).length = 5 * s.quantumLength / 8 := (length_quantumBytes _ _).trans hbytes
  have hin := hread.inInput
  have hsrcWord := s.srcLen.isLt
  have hdstWord := s.cfg.dstCap.isLt
  have hpos : 0 < s.quantumLength := Nat.pos_of_ne_zero fun h0 => by simp [h0] at hlen
  have hmore := srcCursor_ne_of_quantumLength hpos
  refine ⟨(unpacked s).stepEnded, (execStepUnpack_quantum hread.phase hmore).trans
    ((unpackQuantum_of_good hread.phase hgood).mpr ⟨readable_quantum hread, ⟨hlen, hroom⟩, rfl⟩),
    ⟨rfl, rfl, rfl, rfl, rfl, rfl, rfl⟩, ⟨rfl, rfl, rfl⟩, hread.phase, toNat_unpacked_srcCursor (by omega),
    toNat_unpacked_dstCursor hlen (by omega), rfl, rfl, rfl, fun k hk => ?_, fun a ha => ?_⟩
  · rw [stepEnded_dst, unpacked_dst, byte?_writeRun_inside _ _ (by omega), emitted_eq_bytesOfBits, hbytes]
  · rw [stepEnded_dst, unpacked_dst]
    exact read_writeRun_outside _ _ (hemitted ▸ ha)

/-- Settles O21: the loop stops at the first bad character, which lies in the quantum. -/
theorem unpackStepReportsTheFirstBadCharacter : Obligations.UnpackStepReportsTheFirstBadCharacter := by
  intro s j hread hbad
  have hj : j < s.quantumLength := length_quantumChars s ▸ firstBad_lt hbad
  have hin := hread.inInput
  have hword := s.srcLen.isLt
  have hpos : (s.srcCursor + BitVec.ofNat 32 j).toNat = s.srcCursor.toNat + j := by
    rw [BitVec.toNat_add, BitVec.toNat_ofNat]
    omega
  refine ⟨_, (execStepUnpack_quantum hread.phase (srcCursor_ne_of_quantumLength (by omega))).trans
    ((unpackQuantum_of_bad hread.phase hbad).mpr ⟨fun i hi => readable_quantum hread i (by omega), rfl⟩),
    ⟨rfl, rfl, rfl, rfl, rfl, rfl, rfl⟩, ⟨rfl, rfl, rfl⟩, rfl, rfl, hpos ▸ raised_stepEnded s _ _⟩

/-- Settles O22: both rows are selected there; the invariant of UNPACK becomes that of DONE. -/
theorem unpackStepEndsInDone : Obligations.UnpackStepEndsInDone := by
  intro s hp hend
  refine ⟨ifSelected_of (by simp [hp, hend]) _, execStepUnpack_end hp hend, fun hinv => ⟨?_, ?_⟩⟩
  · exact (doneInv_finished (hinv.unpacking hp) hend).dstCursor
  · exact hinv.errRecorded.mpr (by simp [hp])

/-- Settles O23: the rows run as the character loop and as the operation of the quantum's length. -/
theorem unpackStepRunsDecodedRows : Obligations.UnpackStepRunsDecodedRows := by
  intro s hp hmore
  rw [runSymbols_eq_loadLanes, runQuantum_eq_execQuantum (quantumLength_le s)]
  exact execStepUnpack_quantum hp hmore

/-- Settles O24: an accepted START is `State.started`. -/
theorem startClearsResultsAndScans : Obligations.StartClearsResultsAndScans := by
  intro s hrest hfits
  simp only [exec, execCmdStart, hrest, Bool.false_eq_true, if_false, if_neg hfits.not_gt]
  rfl

/-- Settles O25: an accepted CLEAR is `State.cleared`, whose phase is IDLE. -/
theorem clearReturnsToIdle : Obligations.ClearReturnsToIdle := by
  intro s
  refine ⟨fun hrest => ⟨s.cleared, ?_, rfl, rfl, rfl, rfl⟩, fun hbusy => ?_⟩
  · simp [exec, execCmdClear, hrest]
  · simp [exec, execCmdClear, hbusy]

/-- Settles O29: alone a step is the block's own, and in SCAN that is what the symbol of the byte does. -/
theorem stepRunsTheSelectedOperation : Obligations.StepRunsTheSelectedOperation := by
  intro s
  refine ⟨fun halone => ?_, fun rest hin => step_pending hin⟩
  rw [step_alone halone]
  refine ⟨blockStep_geom, fun hp hend => ?_, fun hp _ => blockStep_unpack hp, fun hp h0 => ?_,
    fun hp h0 c hc i hi => ?_⟩
  · simp [blockStep, select, hp, hend]
  · simp [blockStep, select, selectScan, hp, h0]
  · cases hi
    rw [blockStep_scan hp, if_neg h0, hc, exec_decodeSym8, presentSymbol_scan hp]

/-- Settles O30: at rest the block's own step holds everything. -/
theorem restStatesHoldEverything : Obligations.RestStatesHoldEverything := by
  intro s hrest
  exact ⟨fun halone => (step_alone halone).trans (blockStep_rest hrest), fun rest hin =>
    (step_pending hin).trans (blockStep_rest (s := { s with inputs := rest }) hrest)⟩

end Sys2Proof.Proofs
end

section
/-! PROOFS. When the block and the host have a next step, which accesses of the host change PHASE, and the statements of
the family 43_decode_transaction.md about the steps of the machine. -/

namespace Sys2Proof.Laws

open Sys2Proof.Machine Sys2Proof.Safety Sys2Proof.Claims

/-! ### The block always has a step (43 R162) -/

/-- With content left the quantum has an operation: it is full, or has the trailing length (42 R140). -/
theorem quantumLength_mem {s : State} (h : UnpackInv s) (hmore : s.srcCursor ≠ s.contentLen) :
    s.quantumLength ∈ [8, 7, 5, 4, 2] := by
  obtain ⟨hstart, hlt⟩ := unpackInv_before_end h hmore
  obtain ⟨hvalid, -⟩ := decodedSize?_eq_some.mp h.size
  have hquantum : s.quantumLength = min 8 (s.contentLen.toNat - s.srcCursor.toNat) := rfl
  simp only [List.mem_cons, List.not_mem_nil, or_false, not_or] at hvalid ⊢
  omega

/-- The quantum lies in the content, which lies in SRC (20 R44). -/
theorem quantumReadable_of_unpackInv {s : State} (h : UnpackInv s) (hp : s.phase = .unpack)
    (hsrc : s.srcLen.toNat ≤ s.cfg.srcCap.toNat) : QuantumReadable s where
  phase := hp
  inInput := by
    have hquantum : s.quantumLength = min 8 (s.contentLen.toNat - s.srcCursor.toNat) := rfl
    have htotal := h.counted.total
    have hle := h.srcCursorLe
    omega
  inSrc := hsrc

/-- The quantum's bytes are part of the output, which fits in DST (20 R46, 40 R100). -/
theorem storable_of_unpackInv {s : State} (h : UnpackInv s) (hmore : s.srcCursor ≠ s.contentLen)
    (hdst : s.dstLen.toNat ≤ s.cfg.dstCap.toNat) : Storable s := by
  refine ⟨quantumLength_mem h hmore, ?_⟩
  have hquantum : s.quantumLength = min 8 (s.contentLen.toNat - s.srcCursor.toNat) := rfl
  obtain ⟨hstart, hlt⟩ := unpackInv_before_end h hmore
  obtain ⟨-, hsize⟩ := decodedSize?_eq_some.mp h.size
  have hlock := h.lockstep
  omega

theorem exists_blockEffect_scan {s : State} (hp : s.phase = .scan) (hinv : ScanInv s)
    (hsrc : s.srcLen.toNat ≤ s.cfg.srcCap.toNat) : ∃ t, BlockEffect s t := by
  by_cases h0 : s.scanIdx = 0#32
  · exact ⟨_, .scanAll hp h0⟩
  · have htotal := hinv.counted.total
    have hscan : Scannable s := ⟨hp, h0, by omega, by omega⟩
    exact ⟨_, blockStep_next.mp (blockStep_scannable hscan)⟩

theorem exists_blockEffect_geom {s : State} (hp : s.phase = .geom) : ∃ t, BlockEffect s t := by
  cases hsize : decodedSize? s.scanIdx.toNat with
  | none => exact ⟨_, .badLength hp hsize⟩
  | some size =>
    rcases Nat.lt_or_ge s.cfg.dstCap.toNat size with hcap | hcap
    · exact ⟨_, .noRoom size hp hsize hcap⟩
    · exact ⟨_, .allocate size hp hsize hcap⟩

theorem exists_blockEffect_unpack {s : State} (hp : s.phase = .unpack) (hinv : UnpackInv s)
    (hsrc : s.srcLen.toNat ≤ s.cfg.srcCap.toNat) (hdst : s.dstLen.toNat ≤ s.cfg.dstCap.toNat) :
    ∃ t, BlockEffect s t := by
  by_cases hend : s.srcCursor = s.contentLen
  · exact ⟨_, .finish hp hend⟩
  · have hread := readable_quantum (quantumReadable_of_unpackInv hinv hp hsrc)
    cases hbad : firstBad (quantumChars s) with
    | none => exact ⟨_, .quantum hp hend hbad hread (storable_of_unpackInv hinv hend hdst)⟩
    | some j =>
      have hj : j < s.quantumLength := length_quantumChars s ▸ firstBad_lt hbad
      exact ⟨_, .badCharacter j hp hend hbad fun i hi => hread i (by omega)⟩

/-- While the facts of its phase hold and input and output fit, the block has a step. -/
theorem exists_blockEffect {s : State} (hfacts : PhaseFacts s)
    (hsrc : s.busy = true → s.srcLen.toNat ≤ s.cfg.srcCap.toNat) (hdst : s.dstLen.toNat ≤ s.cfg.dstCap.toNat) :
    ∃ t, BlockEffect s t := by
  cases hbusy : s.busy with
  | false => exact ⟨s, .rest hbusy⟩
  | true =>
    rcases (busy_iff s).mp hbusy with hp | hp | hp
    · exact exists_blockEffect_scan hp ((phaseFacts_scan hp).mp hfacts) (hsrc hbusy)
    · exact exists_blockEffect_geom hp
    · exact exists_blockEffect_unpack hp ((phaseFacts_unpack hp).mp hfacts) (hsrc hbusy) hdst

/-- The block moves on from every state with the invariant. -/
theorem blockStep_of_inv {s : State} (h : Inv s) : ∃ t, blockStep s = .next t := by
  obtain ⟨-, hfacts⟩ := inv_iff.mp h
  obtain ⟨t, ht⟩ := exists_blockEffect hfacts h.inputFits h.outputFits
  exact ⟨t, ht.runs⟩

/-! ### A host that keeps its duties always gets its access (43 R170) -/

theorem execCmdStart_of_fits {s : State} (h : s.busy = false → s.srcLen.toNat ≤ s.cfg.srcCap.toNat) :
    ∃ t, execCmdStart s = .next t := by
  unfold execCmdStart
  cases hbusy : s.busy with
  | true => exact ⟨_, if_pos rfl⟩
  | false => exact ⟨_, (if_neg (by decide)).trans (if_neg (h hbusy).not_gt)⟩

theorem execCmdClear_answers (s : State) : ∃ t, execCmdClear s = .next t := by
  unfold execCmdClear
  cases s.busy <;> exact ⟨_, rfl⟩

theorem writeReg_of_startFits {n : Nat} {value : BitVec 32} {s : State} (h : StartFits n value s) :
    ∃ t, writeReg n value s = .next t := by
  unfold writeReg
  split
  next h0 =>
    by_cases hstart : value = 1#32
    · subst hstart
      exact execCmdStart_of_fits (h h0 rfl)
    · by_cases hclear : value = 2#32
      · subst hclear
        exact execCmdClear_answers s
      · exact ⟨s, by rw [writeCtrl, decode_ctrl32_reserved hstart hclear]⟩
  next => split <;> exact ⟨_, rfl⟩

theorem readReg_answers (n : Nat) (s : State) : ∃ t, readReg n s = .next t := by
  cases h : s.readsFree n with
  | false => exact ⟨_, readReg_of_known h⟩
  | true => exact ⟨_, readReg_of_free h⟩

/-- An offset that is a multiple of 4 reaches its register (10 R16). -/
theorem atOffset_of_aligned {offset : Nat} (h : offset % 4 = 0)
    (access : Nat → State → Host.Outcome State Fault Refusal) (s : State) :
    atOffset offset access s = access (offset / 4) s := by
  have haligned := atOffset_four_mul (offset / 4) access s
  rwa [Nat.mul_div_cancel' (Nat.dvd_of_mod_eq_zero h)] at haligned

theorem writeSrc_at_rest {i : Nat} {b : Byte} {s : State} (hrest : s.busy = false) (hi : i < s.cfg.srcCap.toNat) :
    writeSrc i b s = .next { s with src := s.src.write i b } := by
  simp [writeSrc, hrest, hi]

theorem writeDst_at_rest {i : Nat} {b : Byte} {s : State} (hrest : s.busy = false) (hi : i < s.cfg.dstCap.toNat) :
    writeDst i b s = .next { s with dst := s.dst.write i b } := by
  simp [writeDst, hrest, hi]

theorem readDst_at_rest {i : Nat} {s : State} (hrest : s.busy = false) (hi : i < s.cfg.dstCap.toNat) :
    readDst i s = .next { s with busData := (s.dst.read i).setWidth 32 } := by
  simp [readDst, hrest, hi]

theorem readDst_while_busy {i : Nat} {s : State} (hbusy : s.busy = true) (hi : i < s.cfg.dstCap.toNat) :
    readDst i s = .next { s with busData := lowBits 8 (Config.freeWord s.draws), draws := s.draws + 1 } := by
  simp [readDst, hbusy, hi]

/-! ### Which accesses change PHASE (43 R152, R153) -/

theorem busy_congr {s t : State} (h : t.phase = s.phase) : t.busy = s.busy := by
  unfold State.busy
  rw [h]

/-- What an access may do to PHASE: nothing, or at rest lead to rest again, or, where `starts` holds, to SCAN. -/
def MovesPhase (starts : Prop) (s t : State) : Prop :=
  t.phase = s.phase ∨ s.busy = false ∧ (t.busy = false ∨ starts ∧ t.phase = .scan)

theorem execCmdStart_movesPhase {s t : State} (h : execCmdStart s = .next t) : MovesPhase True s t := by
  unfold execCmdStart at h
  split at h
  next => cases h; exact .inl rfl
  next hrest =>
    split at h <;> cases h
    exact .inr ⟨Bool.eq_false_iff.mpr hrest, .inr ⟨trivial, rfl⟩⟩

theorem execCmdClear_movesPhase {s t : State} (h : execCmdClear s = .next t) : MovesPhase False s t := by
  unfold execCmdClear at h
  split at h
  next => cases h; exact .inl rfl
  next hrest => cases h; exact .inr ⟨Bool.eq_false_iff.mpr hrest, .inl rfl⟩

theorem MovesPhase.imp {p q : Prop} {s t : State} (hpq : p → q) (h : MovesPhase p s t) : MovesPhase q s t :=
  Or.imp_right (And.imp_right (Or.imp_right (And.imp_left hpq))) h

theorem writeCtrl_movesPhase {word : BitVec 32} {s t : State} (h : writeCtrl word s = .next t) :
    MovesPhase (word = 1#32) s t := by
  by_cases hstart : word = 1#32
  · subst hstart
    exact (execCmdStart_movesPhase h).imp fun _ => rfl
  · by_cases hclear : word = 2#32
    · subst hclear
      exact (execCmdClear_movesPhase h).imp False.elim
    · rw [writeCtrl, decode_ctrl32_reserved hstart hclear] at h
      cases h
      exact .inl rfl

theorem writeReg_movesPhase {n : Nat} {value : BitVec 32} {s t : State} (h : writeReg n value s = .next t) :
    MovesPhase (n = 0 ∧ value = 1#32) s t := by
  unfold writeReg at h
  split at h
  next h0 => exact (writeCtrl_movesPhase h).imp fun hstart => ⟨h0, hstart⟩
  next => split at h <;> cases h <;> exact .inl rfl

theorem readReg_phase {n : Nat} {s t : State} (h : readReg n s = .next t) : t.phase = s.phase := by
  unfold readReg at h
  split at h <;> cases h <;> rfl

theorem writeSrc_phase {i : Nat} {b : Byte} {s t : State} (h : writeSrc i b s = .next t) : t.phase = s.phase := by
  unfold writeSrc at h
  split_ifs at h
  cases h
  rfl

theorem writeDst_phase {i : Nat} {b : Byte} {s t : State} (h : writeDst i b s = .next t) : t.phase = s.phase := by
  unfold writeDst at h
  split_ifs at h
  cases h
  rfl

theorem readDst_phase {i : Nat} {s t : State} (h : readDst i s = .next t) : t.phase = s.phase := by
  unfold readDst at h
  split_ifs at h <;> cases h <;> rfl

/-- An access at a byte offset is one at the register there. -/
theorem atOffset_eq_next {offset : Nat} {access : Nat → State → Host.Outcome State Fault Refusal} {s t : State}
    (h : atOffset offset access s = .next t) : offset % 4 = 0 ∧ access (offset / 4) s = .next t := by
  by_cases haligned : offset % 4 = 0
  · exact ⟨haligned, (atOffset_of_aligned haligned access s).symm.trans h⟩
  · simp [atOffset, regAtOffset, haligned] at h

/-- Besides a wait and a reset, PHASE changes by a command only, and by START only to SCAN. -/
theorem hostStep_movesPhase {a : HostAction} {s t : State} (h : hostStep a s = .next t) :
    a = .wait ∨ a = .reset ∨ MovesPhase (a = .writeReg 0 1#32 ∨ a = .writeBus 0 1#32) s t := by
  cases a with
  | wait => exact .inl rfl
  | reset => exact .inr (.inl rfl)
  | writeReg n value =>
    refine .inr (.inr ((writeReg_movesPhase h).imp ?_))
    rintro ⟨rfl, rfl⟩
    exact .inl rfl
  | writeBus offset value =>
    obtain ⟨haligned, haccess⟩ := atOffset_eq_next h
    refine .inr (.inr ((writeReg_movesPhase haccess).imp ?_))
    rintro ⟨h0, rfl⟩
    obtain rfl : offset = 0 := by omega
    exact .inr rfl
  | readReg n => exact .inr (.inr (.inl (readReg_phase h)))
  | readBus offset => exact .inr (.inr (.inl (readReg_phase (atOffset_eq_next h).2)))
  | writeSrc i b => exact .inr (.inr (.inl (writeSrc_phase h)))
  | writeDst i b => exact .inr (.inr (.inl (writeDst_phase h)))
  | readDst i => exact .inr (.inr (.inl (readDst_phase h)))

theorem step_movesPhase {s t : State} (h : step s = .next t) :
    BlockMoves s ∨ (∃ rest, s.inputs = .reset :: rest) ∨ MovesPhase (WritesStart s) s t := by
  cases hin : s.inputs with
  | nil => exact .inl (.inl hin)
  | cons a rest =>
    rw [step_pending hin] at h
    obtain rfl | rfl | hmoves := hostStep_movesPhase h
    · exact .inl (.inr ⟨rest, hin⟩)
    · exact .inr (.inl ⟨rest, rfl⟩)
    · refine .inr (.inr (MovesPhase.imp ?_ hmoves))
      rintro (rfl | rfl)
      · exact ⟨rest, .inl hin⟩
      · exact ⟨rest, .inr hin⟩

/-- The block moves along the order of 43 R154. -/
theorem BlockEffect.mem_successors {s t : State} (h : BlockEffect s t) : t.phase ∈ successors s.phase := by
  cases h with
  | rest hrest => rcases (not_busy_iff s).mp hrest with hp | hp | hp <;> simp [successors, hp]
  | scanPad hscan | scanLf hscan | scanEnd hscan => simp [successors, hscan.phase]
  | scanAll hp | badLength hp | noRoom _ hp | badCharacter _ hp | finish hp => simp [successors, hp]
  | allocate _ hp => simp [successors, hp, allocated]
  | quantum hp => simp [successors, hp, unpacked]

/-- At rest the block stays. -/
theorem BlockEffect.eq_of_rest {s t : State} (h : BlockEffect s t) (hrest : s.busy = false) : t = s := by
  have hblock := blockStep_rest hrest
  cases hblock.symm.trans h.runs
  rfl

end Sys2Proof.Laws

namespace Sys2Proof.Proofs

open Sys2Proof.Machine Sys2Proof.Safety Sys2Proof.Claims Sys2Proof.Laws

/-- Settles O35: a write lists its byte and no other, and the refusal comes before the index is looked at. -/
theorem hostBufferWritesNeedRest : Obligations.HostBufferWritesNeedRest := by
  intro s i b rest
  refine ⟨fun hin => ⟨fun hbusy => ?_, fun hrest hi => ?_⟩, fun hin => ⟨fun hbusy => ?_, fun hrest hi => ?_⟩⟩
  · exact (step_pending hin).trans (if_pos hbusy)
  · exact ⟨s.src.write i b, (step_pending hin).trans (writeSrc_at_rest hrest hi), byte?_write_same .., fun a ha =>
      read_write_other ha ..⟩
  · exact (step_pending hin).trans (if_pos hbusy)
  · exact ⟨s.dst.write i b, (step_pending hin).trans (writeDst_at_rest hrest hi), byte?_write_same .., fun a ha =>
      read_write_other ha ..⟩

/-- Settles O36: at rest the byte is zero-extended; while BUSY the low eight bits of a free value are returned. -/
theorem dstReadsReturnWhatTheBufferHolds : Obligations.DstReadsReturnWhatTheBufferHolds := by
  intro s i rest hin hi
  refine ⟨fun hrest => ?_, fun hbusy => ?_⟩
  · have hext : ((s.dst.read i).setWidth 32).toNat = (s.dst.read i).toNat := BitVec.toNat_setWidth_of_le (by decide)
    refine ⟨_, (step_pending hin).trans (readDst_at_rest hrest hi), hext ▸ (s.dst.read i).isLt, hext, fun b hb => ?_⟩
    have hread : s.dst.read i = b := by rw [Memory.read, hb, Option.getD_some]
    rw [hext, hread]
  · exact ⟨_, (step_pending hin).trans (readDst_while_busy hbusy hi), toNat_lowBits (width := 8) (by decide) _⟩

/-- Settles O41: the block has a step by the invariant, and an access by the duty that the host table gives it. -/
theorem dutifulRunsNeverStop : Obligations.DutifulRunsNeverStop := by
  intro s hinv hduty
  unfold Dutiful at hduty
  cases hin : s.inputs with
  | nil =>
    rw [step_alone hin]
    exact blockStep_of_inv hinv
  | cons a rest =>
    rw [hin] at hduty
    rw [step_pending hin]
    cases a with
    | wait => exact blockStep_of_inv (inv_inputs hinv rest)
    | reset => exact ⟨_, rfl⟩
    | readReg n => exact readReg_answers n _
    | writeReg n value => exact writeReg_of_startFits hduty
    | readBus offset =>
      obtain ⟨t, ht⟩ := readReg_answers (offset / 4) { s with inputs := rest }
      exact ⟨t, (atOffset_of_aligned hduty _ _).trans ht⟩
    | writeBus offset value =>
      obtain ⟨haligned, hfits⟩ := hduty
      obtain ⟨t, ht⟩ := writeReg_of_startFits (s := { s with inputs := rest }) hfits
      exact ⟨t, (atOffset_of_aligned haligned _ _).trans ht⟩
    | writeSrc i b =>
      obtain ⟨hrest, hi⟩ := hduty
      exact ⟨_, writeSrc_at_rest hrest hi⟩
    | writeDst i b =>
      obtain ⟨hrest, hi⟩ := hduty
      exact ⟨_, writeDst_at_rest hrest hi⟩
    | readDst i =>
      cases hbusy : s.busy with
      | false => exact ⟨_, readDst_at_rest hbusy hduty⟩
      | true => exact ⟨_, readDst_while_busy hbusy hduty⟩

/-- Settles O42: the phase after each effect of the block. -/
theorem phasesFollowTheFixedOrder : Obligations.PhasesFollowTheFixedOrder := by
  intro s t hmoves hstep
  obtain ⟨rest, heffect⟩ := step_of_blockMoves hmoves hstep
  exact heffect.mem_successors

/-- Settles O44: a block at rest stays there, a reset leads to rest, and every other access moves PHASE as its command
does. -/
theorem onlyStartLeavesRest : Obligations.OnlyStartLeavesRest := by
  intro s t hstep
  obtain hmoves | ⟨rest, hreset⟩ | haccess := step_movesPhase hstep
  · refine ⟨fun hrest hbusy => ?_, fun _ _ => .inl hmoves⟩
    obtain ⟨rest, heffect⟩ := step_of_blockMoves hmoves hstep
    obtain rfl := heffect.eq_of_rest hrest
    cases hrest.symm.trans hbusy
  · refine ⟨fun _ hbusy => ?_, fun _ _ => .inr ⟨rest, hreset⟩⟩
    rw [step_pending hreset] at hstep
    cases hstep
    cases hbusy
  · obtain hsame | ⟨hrest, hto⟩ := haccess
    · have hbusy := busy_congr hsame
      refine ⟨fun h0 h1 => ?_, fun h1 h0 => ?_⟩ <;> simp [h0, h1] at hbusy
    · refine ⟨fun _ h1 => ?_, fun h1 _ => absurd (hrest.symm.trans h1) (by decide)⟩
      exact hto.resolve_left fun h0 => absurd (h0.symm.trans h1) (by decide)

end Sys2Proof.Proofs
end

section
/-! PROOFS. A transaction against the normative function `decode` (43 R150, R163): what holds of the block while a
transaction on the input of a state runs, how each step comes nearer to its end, and the last statements of the family
43_decode_transaction.md. -/

namespace Sys2Proof.Laws

open Sys2Proof.Machine Sys2Proof.Safety Sys2Proof.Claims

/-! ### The input in SRC and its two parts (40 R80) -/

@[simp] theorem length_textOf (s : State) : (textOf s).length = s.srcLen.toNat := by simp [textOf]

theorem getElem_textOf {s : State} {i : Nat} (h : i < (textOf s).length) : (textOf s)[i] = s.src.read i := by
  simp [textOf]

/-- What the scan has passed is trailer. -/
theorem trailer_of_trailerCounted {s : State} {i : Nat} (h : TrailerCounted s i) :
    ∀ c ∈ (textOf s).drop i, isTrailerByte c = true := by
  intro c hc
  obtain ⟨k, hk, rfl⟩ := List.mem_iff_getElem.mp hc
  rw [List.length_drop, length_textOf] at hk
  rw [List.getElem_drop, getElem_textOf]
  exact h.isTrailer (i + k) (by omega) (by omega)

/-- The content reaches no further than the scan has come. -/
theorem contentLenOf_le_of_trailerCounted {s : State} {i : Nat} (h : TrailerCounted s i) :
    contentLenOf (textOf s) ≤ i := by
  have hsplit := trailerOf_append (a := (textOf s).take i) (trailer_of_trailerCounted h)
  rw [List.take_append_drop] at hsplit
  have hlen := congrArg List.length hsplit
  rw [List.length_append, List.length_drop, length_textOf] at hlen
  rw [contentLenOf, length_textOf]
  omega

/-- Where the scan ends stands the end of the content, and it has counted the trailer. -/
structure ScanResult (s : State) (i : Nat) : Prop where
  content : contentLenOf (textOf s) = i
  pad : padOf (textOf s) = s.padCount.toNat
  lf : lfOf (textOf s) = s.lfCount.toNat

theorem scanResult_of_maximal {s : State} {i : Nat} (h : TrailerCounted s i) (hmax : TrailerMaximal s i) :
    ScanResult s i := by
  have htotal := h.total
  have hlast : ∀ c, ((textOf s).take i).getLast? = some c → isTrailerByte c = false := by
    intro c hc
    rcases hmax with rfl | hbyte
    · simp at hc
    · obtain ⟨hne, rfl⟩ := List.mem_getLast?_eq_getLast hc
      rw [List.getLast_eq_getElem, List.getElem_take, getElem_textOf]
      simpa [Nat.min_eq_left (by omega : i ≤ s.srcLen.toNat)] using hbyte
  have htrailer : trailerOf (textOf s) = (textOf s).drop i := by
    rw [← List.take_append_drop i (textOf s), trailerOf_append (trailer_of_trailerCounted h), trailerOf_eq_nil hlast,
      List.take_append_drop, List.nil_append]
  have hpad : padOf (textOf s) = s.padCount.toNat := by
    rw [padOf, htrailer, h.pads, textOf, ← List.map_drop, List.countP_map]
    rfl
  have hlen : (trailerOf (textOf s)).length = s.srcLen.toNat - i := by rw [htrailer]; simp
  have hsum := padOf_add_lfOf (textOf s)
  refine ⟨?_, hpad, by omega⟩
  rw [contentLenOf, hlen, length_textOf]
  omega

/-! ### The content in pieces (43 R150, R158) -/

theorem firstBad_append_of_good {a b : List Byte} (ha : firstBad a = none) :
    firstBad (a ++ b) = (firstBad b).map (· + a.length) := by
  induction a with
  | nil => simp
  | cons c a ih =>
    rw [firstBad] at ha
    split at ha
    next hc =>
      rw [List.cons_append, firstBad, if_pos hc, ih (Option.map_eq_none_iff.mp ha)]
      cases firstBad b <;> simp [Nat.add_assoc]
    next => cases ha

theorem firstBad_append_of_bad {a b : List Byte} {j : Nat} (ha : firstBad a = some j) : firstBad (a ++ b) = some j := by
  induction a generalizing j with
  | nil => cases ha
  | cons c a ih =>
    rw [firstBad] at ha
    rw [List.cons_append, firstBad]
    split at ha
    next hc =>
      obtain ⟨i, hi, rfl⟩ := Option.map_eq_some_iff.mp ha
      rw [if_pos hc, ih hi]
      rfl
    next hc => rw [if_neg hc, ha]

/-- Whole bytes one after the other. -/
theorem bytesOfBits_add (m n : Nat) (x : List Bool) :
    bytesOfBits (m + n) x = bytesOfBits m x ++ bytesOfBits n (x.drop (8 * m)) := by
  simp [bytesOfBits, List.range_add, Nat.mul_add, Function.comp_def]

/-- Whole bytes do not depend on the bits after them. -/
theorem bytesOfBits_append {size : Nat} {x : List Bool} (h : 8 * size ≤ x.length) (y : List Bool) :
    bytesOfBits size (x ++ y) = bytesOfBits size x := by
  refine List.map_congr_left fun k hk => ?_
  have hlt : k < size := List.mem_range.mp hk
  rw [List.drop_append_of_le_length (by omega), List.take_append_of_le_length (by simp; omega)]

/-! ### While a transaction runs -/

/-- The bytes of DST below `n` are the first `n` whole bytes of the content, the others as they were. -/
structure Stored (content : List Byte) (before : Memory) (n : Nat) (dst : Memory) : Prop where
  output : ∀ k < n, dst.byte? k = (bytesOfBits n (contentBits content))[k]?
  beyond : ∀ k, n ≤ k → dst.byte? k = before.byte? k

/-- What holds of a busy block `u` whose transaction began in the ready state `s`. -/
structure Underway (s u : State) : Prop where
  busy : u.busy = true
  cfg : u.cfg = s.cfg
  src : u.src = s.src
  srcLen : u.srcLen = s.srcLen
  errCode : u.errCode = .none
  errPos : u.errPos = 0#32
  facts : PhaseFacts u
  inputFits : u.srcLen.toNat ≤ u.cfg.srcCap.toNat
  outputFits : u.dstLen.toNat ≤ u.cfg.dstCap.toNat
  quanta : u.phase = .unpack → u.fullQuanta.toNat = u.contentLen.toNat / 8
  trailing : u.phase = .unpack → u.trailingLen.toNat = u.contentLen.toNat % 8
  stored : Stored (contentOf (textOf s)) s.dst u.dstCursor.toNat u.dst

/-- How many steps a transaction has left that raises no error (43 R162). -/
def stepsLeft (s u : State) : Nat :=
  match u.phase with
  | .scan => u.scanIdx.toNat - contentLenOf (textOf s) + 1 + 1 + (quantaOf (contentLenOf (textOf s)) + 1)
  | .geom => 1 + (quantaOf (contentLenOf (textOf s)) + 1)
  | .unpack => quantaOf (contentLenOf (textOf s) - u.srcCursor.toNat) + 1
  | .idle | .done | .error => 0

theorem stepsLeft_scan {s u : State} (hp : u.phase = .scan) : stepsLeft s u =
    u.scanIdx.toNat - contentLenOf (textOf s) + 1 + 1 + (quantaOf (contentLenOf (textOf s)) + 1) := by
  simp [stepsLeft, hp]

theorem stepsLeft_geom {s u : State} (hp : u.phase = .geom) :
    stepsLeft s u = 1 + (quantaOf (contentLenOf (textOf s)) + 1) := by
  simp [stepsLeft, hp]

theorem stepsLeft_unpack {s u : State} (hp : u.phase = .unpack) :
    stepsLeft s u = quantaOf (contentLenOf (textOf s) - u.srcCursor.toNat) + 1 := by
  simp [stepsLeft, hp]

theorem stepsLeft_rest {s u : State} (hrest : u.busy = false) : stepsLeft s u = 0 := by
  rcases (not_busy_iff u).mp hrest with hp | hp | hp <;> simp [stepsLeft, hp]

/-- The end of a transaction. -/
structure Ended (s u : State) : Prop where
  rest : u.busy = false
  reported : Reported s u

/-- One step nearer to the end: on the way with one step less to go, or at the end, which an error may reach early. -/
def Nearer (s u t : State) : Prop :=
  (Underway s t ∧ stepsLeft s u = stepsLeft s t + 1) ∨
    (Ended s t ∧ 1 ≤ stepsLeft s u ∧ ((∃ out, resultOf s = .ok out) → stepsLeft s u = 1))

variable {s u t : State}

theorem Underway.textOf (h : Underway s u) : textOf u = textOf s :=
  textOf_eq_iff.mpr ⟨h.srcLen, fun _ _ => by rw [h.src]⟩

theorem Underway.scanResult_geom (h : Underway s u) (hp : u.phase = .geom) : ScanResult u u.scanIdx.toNat :=
  have hinv := (phaseFacts_geom hp).mp h.facts
  scanResult_of_maximal hinv.counted hinv.maximal

theorem Underway.scanResult_unpack (h : Underway s u) (hp : u.phase = .unpack) : ScanResult u u.contentLen.toNat :=
  have hinv := (phaseFacts_unpack hp).mp h.facts
  scanResult_of_maximal hinv.counted hinv.maximal

theorem Underway.contentLenOf_unpack (h : Underway s u) (hp : u.phase = .unpack) :
    contentLenOf (Safety.textOf s) = u.contentLen.toNat :=
  h.textOf ▸ (h.scanResult_unpack hp).content

/-! ### The scan -/

/-- A trailer byte brings the scan one step further. -/
theorem nearer_of_scanned (hp : u.phase = .scan) (ht : Underway s t) (htp : t.phase = .scan)
    (hidx : u.scanIdx.toNat = t.scanIdx.toNat + 1) : Nearer s u t := by
  have hle := contentLenOf_le_of_trailerCounted ((phaseFacts_scan htp).mp ht.facts).counted
  rw [ht.textOf] at hle
  refine .inl ⟨ht, ?_⟩
  rw [stepsLeft_scan hp, stepsLeft_scan htp]
  omega

theorem Underway.scanEnded (h : Underway s u) (heffect : BlockEffect u u.scanEnded) : Underway s u.scanEnded :=
  { h with
    busy := rfl, facts := heffect.phaseFacts h.facts, quanta := nofun, trailing := nofun }

/-- The scan ends where the content does. -/
theorem Underway.nearer_of_scanEnded (h : Underway s u) (hp : u.phase = .scan) (heffect : BlockEffect u u.scanEnded) :
    Nearer s u u.scanEnded := by
  have ht := h.scanEnded heffect
  have hcontent : contentLenOf (Safety.textOf s) = u.scanIdx.toNat := ht.textOf ▸ (ht.scanResult_geom rfl).content
  refine .inl ⟨ht, ?_⟩
  rw [stepsLeft_scan hp, stepsLeft_geom rfl]
  omega

/-! ### Errors -/

theorem status_of_error {x : State} (hp : x.phase = .error) : x.status = 0b100#3 := by
  simp [State.status, State.busy, State.done, State.err, hp]

theorem status_of_done {x : State} (hp : x.phase = .done) : x.status = 0b010#3 := by
  simp [State.status, State.busy, State.done, State.err, hp]

theorem decodeText_of_badLength {cap : Nat} {text : List Byte} (h : decodedSize? (contentLenOf text) = none) :
    decodeText cap text = .error .invalidTrailingQuantumLength := by
  simp [decodeText, h]

theorem decodeText_of_badCharacter {cap pos size : Nat} {text : List Byte}
    (hsize : decodedSize? (contentLenOf text) = some size) (hcap : size ≤ cap)
    (hbad : firstBad (contentOf text) = some pos) : decodeText cap text = .error (.invalidCharacter pos) := by
  simp [decodeText, hsize, hcap.not_gt, hbad]

/-- An error entry reports the error that `decode` gives. -/
theorem ended_of_raised {e : DecodeError} {pos : Word} (hresult : resultOf s = .error e) (hsrc : u.src = s.src)
    (hlen : u.srcLen = s.srcLen) (hgeometry : GeometryReported (textOf s) u) (hpos : pos.toNat = positionOf e)
    (hsrcCursor : u.srcCursor.toNat = 8 * (positionOf e / 8))
    (hdstCursor : u.dstCursor.toNat = 5 * (positionOf e / 8)) :
    Ended s (u.raised (codeOf e) pos).stepEnded := by
  refine ⟨rfl, hsrc, hlen, { hgeometry with }, ?_⟩
  rw [hresult]
  exact ⟨rfl, status_of_error rfl, rfl, hpos, rfl, fun _ => rfl, hsrcCursor, hdstCursor⟩

theorem nearer_of_error {e : DecodeError} (hresult : resultOf s = .error e) (ht : Ended s t)
    (hsteps : 1 ≤ stepsLeft s u) : Nearer s u t := by
  refine .inr ⟨ht, hsteps, ?_⟩
  rintro ⟨out, hout⟩
  cases hresult.symm.trans hout

/-! ### The GEOM step -/

theorem Underway.geometry_measured (h : Underway s u) (hp : u.phase = .geom) :
    GeometryReported (Safety.textOf s) (measured u) := by
  obtain ⟨hcontent, hpad, hlf⟩ := h.scanResult_geom hp
  rw [h.textOf] at hcontent hpad hlf
  constructor
  case pad => exact hpad.symm
  case lf => exact hlf.symm
  case content => exact hcontent.symm
  case quanta => exact hcontent ▸ toNat_fullQuantaOf _
  case trailing => exact hcontent ▸ toNat_trailingLenOf _

/-- In GEOM the cursors are where START put them, so an error there leaves them at 0. -/
theorem Underway.nearer_of_geom_error (h : Underway s u) (hp : u.phase = .geom) {e : DecodeError}
    (hresult : resultOf s = .error e) (hpos : positionOf e = 0) :
    Nearer s u ((measured u).raised (codeOf e) 0#32).stepEnded := by
  obtain ⟨-, hsrc, hdst, -⟩ := ((phaseFacts_geom hp).mp h.facts).unmeasured
  refine nearer_of_error hresult (ended_of_raised hresult h.src h.srcLen (h.geometry_measured hp) hpos.symm ?_ ?_) ?_
  · rw [hpos]
    exact congrArg BitVec.toNat hsrc
  · rw [hpos]
    exact congrArg BitVec.toNat hdst
  · rw [stepsLeft_geom hp]
    omega

theorem Underway.decodedSize?_geom (h : Underway s u) (hp : u.phase = .geom) :
    decodedSize? (contentLenOf (Safety.textOf s)) = decodedSize? u.scanIdx.toNat := by
  rw [← h.textOf, (h.scanResult_geom hp).content]

theorem Underway.nearer_of_allocate (h : Underway s u) {size : Nat} (hp : u.phase = .geom)
    (hcap : size ≤ u.cfg.dstCap.toNat) (heffect : BlockEffect u (allocated size u).stepEnded) :
    Nearer s u (allocated size u).stepEnded := by
  have hsrc := ((phaseFacts_geom hp).mp h.facts).unmeasured.srcCursor
  have hzero : (allocated size u).stepEnded.srcCursor.toNat = 0 := congrArg BitVec.toNat hsrc
  refine .inl ⟨?_, ?_⟩
  · exact { h with
      busy := rfl, facts := heffect.phaseFacts h.facts
      outputFits := (Nat.mod_le _ _).trans hcap
      quanta := fun _ => toNat_fullQuantaOf _
      trailing := fun _ => toNat_trailingLenOf _ }
  · rw [stepsLeft_geom hp, stepsLeft_unpack rfl, hzero, Nat.sub_zero, Nat.add_comm]

/-! ### The UNPACK step -/

theorem Underway.geometry_unpack (h : Underway s u) (hp : u.phase = .unpack) :
    GeometryReported (Safety.textOf s) u := by
  obtain ⟨hcontent, hpad, hlf⟩ := h.scanResult_unpack hp
  rw [h.textOf] at hcontent hpad hlf
  constructor
  case pad => exact hpad.symm
  case lf => exact hlf.symm
  case content => exact hcontent.symm
  case quanta => exact hcontent ▸ h.quanta hp
  case trailing => exact hcontent ▸ h.trailing hp

/-- The bytes before a content index. -/
theorem firstBad_take_contentOf {n : Nat} (h : ∀ i < n, isContentByte (u.src.read i) = true) :
    firstBad ((contentOf (textOf u)).take n) = none := by
  refine firstBad_eq_none.mpr fun c hc => ?_
  obtain ⟨i, hi, rfl⟩ := List.mem_iff_getElem.mp hc
  simp only [contentOf, List.getElem_take, getElem_textOf]
  exact h i (by simp at hi; omega)

theorem quantumChars_eq_take_drop (hlen : contentLenOf (textOf u) = u.contentLen.toNat) :
    quantumChars u = ((contentOf (textOf u)).drop u.srcCursor.toNat).take u.quantumLength := by
  have hquantum : u.quantumLength = min 8 (u.contentLen.toNat - u.srcCursor.toNat) := rfl
  refine List.ext_getElem ?_ fun i hi hi' => ?_
  · rw [List.length_take, List.length_drop, length_quantumChars, length_contentOf]
    omega
  · simp [quantumChars, contentOf, getElem_textOf]

/-- The content is what has been unpacked, the quantum of the step, and the rest. -/
structure InPieces (s u : State) (done rest : List Byte) : Prop where
  content : contentOf (textOf s) = done ++ (quantumChars u ++ rest)
  length : done.length = u.srcCursor.toNat
  good : firstBad done = none

theorem Underway.inPieces (h : Underway s u) (hp : u.phase = .unpack) : ∃ done rest, InPieces s u done rest := by
  have hinv := (phaseFacts_unpack hp).mp h.facts
  have hlen : contentLenOf (Safety.textOf u) = u.contentLen.toNat := (h.scanResult_unpack hp).content
  have hle := hinv.srcCursorLe
  refine ⟨(contentOf (Safety.textOf u)).take u.srcCursor.toNat,
    ((contentOf (Safety.textOf u)).drop u.srcCursor.toNat).drop u.quantumLength, ?_, ?_,
    firstBad_take_contentOf hinv.accepted⟩
  · rw [quantumChars_eq_take_drop hlen, List.take_append_drop, List.take_append_drop, h.textOf]
  · rw [List.length_take, length_contentOf, hlen]
    omega

/-- The next whole bytes of the content are those of the quantum (42 R130). -/
theorem bytesOfBits_contentBits_pieces {done chars rest : List Byte} {d m : Nat} (hd : 8 * d = 5 * done.length)
    (hm : 8 * m ≤ 5 * chars.length) :
    bytesOfBits (d + m) (contentBits (done ++ (chars ++ rest))) =
      bytesOfBits d (contentBits (done ++ (chars ++ rest))) ++ bytesOfBits m (contentBits chars) := by
  have hdrop : (contentBits (done ++ (chars ++ rest))).drop (8 * d) = contentBits chars ++ contentBits rest := by
    rw [contentBits_append, contentBits_append, List.drop_left' (by simp [hd])]
  rw [bytesOfBits_add, hdrop, bytesOfBits_append (by simpa using hm)]

/-- Storing the next whole bytes. -/
theorem Stored.writeRun {content bs : List Byte} {before dst : Memory} {d : Nat} (h : Stored content before d dst)
    (hbs : bytesOfBits (d + bs.length) (contentBits content) = bytesOfBits d (contentBits content) ++ bs) :
    Stored content before (d + bs.length) (dst.writeRun d bs) where
  output k hk := by
    have hd : (bytesOfBits d (contentBits content)).length = d := length_bytesOfBits d _
    rw [hbs]
    rcases Nat.lt_or_ge k d with hold | hnew
    · rw [byte?_writeRun_outside _ _ (.inl hold), h.output k hold, List.getElem?_append_left (by omega)]
    · obtain ⟨j, rfl⟩ := Nat.exists_eq_add_of_le hnew
      rw [byte?_writeRun_inside _ _ (by omega), List.getElem?_append_right (by omega), hd, Nat.add_sub_cancel_left]
  beyond k hk := by rw [byte?_writeRun_outside _ _ (.inr hk), h.beyond k (by omega)]

theorem Underway.stored_unpacked (h : Underway s u) (hp : u.phase = .unpack) (hmore : u.srcCursor ≠ u.contentLen)
    (hfits : Storable u) :
    Stored (contentOf (Safety.textOf s)) s.dst (unpacked u).dstCursor.toNat (unpacked u).dst := by
  have hinv := (phaseFacts_unpack hp).mp h.facts
  obtain ⟨hlen, hroom⟩ := hfits
  obtain ⟨hstart, -⟩ := unpackInv_before_end hinv hmore
  obtain ⟨done, rest, hcontent, hdone, -⟩ := h.inPieces hp
  have hlock := hinv.lockstep
  have hword := u.cfg.dstCap.isLt
  have hemitted : (emitted u).length = bytesOut u.quantumLength := length_quantumBytes _ _
  rw [toNat_unpacked_dstCursor hlen (by omega), ← bytesOut_of_mem hlen, ← hemitted]
  refine h.stored.writeRun ?_
  rw [hemitted, emitted_eq_bytesOfBits, hcontent]
  exact bytesOfBits_contentBits_pieces (by omega) (by rw [length_quantumChars]; exact (bytesOut_le _).2)

/-- One more quantum is one step less. -/
theorem quantaOf_sub {c a : Nat} (ha : a < c) : quantaOf (c - a) = quantaOf (c - (a + min 8 (c - a))) + 1 := by
  unfold quantaOf
  split <;> split <;> omega

theorem Underway.nearer_of_quantum (h : Underway s u) (hp : u.phase = .unpack) (hmore : u.srcCursor ≠ u.contentLen)
    (hfits : Storable u) (heffect : BlockEffect u (unpacked u).stepEnded) : Nearer s u (unpacked u).stepEnded := by
  have hinv := (phaseFacts_unpack hp).mp h.facts
  obtain ⟨-, hlt⟩ := unpackInv_before_end hinv hmore
  have hquantum : u.quantumLength = min 8 (u.contentLen.toNat - u.srcCursor.toNat) := rfl
  have hword := u.contentLen.isLt
  have hcursor : (unpacked u).stepEnded.srcCursor.toNat = u.srcCursor.toNat + u.quantumLength :=
    toNat_unpacked_srcCursor (by omega)
  refine .inl ⟨?_, ?_⟩
  · exact { h with facts := heffect.phaseFacts h.facts, stored := h.stored_unpacked hp hmore hfits }
  · rw [stepsLeft_unpack hp, stepsLeft_unpack (by exact hp), hcursor, h.contentLenOf_unpack hp, hquantum,
      quantaOf_sub hlt]

theorem Underway.decodedSize?_unpack (h : Underway s u) (hp : u.phase = .unpack) :
    decodedSize? (contentLenOf (Safety.textOf s)) = some u.dstLen.toNat := by
  rw [h.contentLenOf_unpack hp]
  exact ((phaseFacts_unpack hp).mp h.facts).size

theorem Underway.nearer_of_badCharacter (h : Underway s u) (hp : u.phase = .unpack)
    (hmore : u.srcCursor ≠ u.contentLen) {j : Nat} (hbad : firstBad (quantumChars u) = some j) :
    Nearer s u (u.raised .invalidCharacter (u.srcCursor + BitVec.ofNat 32 j)).stepEnded := by
  have hinv := (phaseFacts_unpack hp).mp h.facts
  obtain ⟨hstart, -⟩ := unpackInv_before_end hinv hmore
  obtain ⟨done, rest, hcontent, hdone, hgood⟩ := h.inPieces hp
  have hj : j < u.quantumLength := length_quantumChars u ▸ firstBad_lt hbad
  have hquantum : u.quantumLength = min 8 (u.contentLen.toNat - u.srcCursor.toNat) := rfl
  have hword := u.contentLen.isLt
  have hlock := hinv.lockstep
  have hfirst : firstBad (contentOf (Safety.textOf s)) = some (u.srcCursor.toNat + j) := by
    rw [hcontent, firstBad_append_of_good hgood, firstBad_append_of_bad hbad, hdone, Nat.add_comm]
    rfl
  have hresult : resultOf s = .error (.invalidCharacter (u.srcCursor.toNat + j)) :=
    decodeText_of_badCharacter (h.decodedSize?_unpack hp) (h.cfg ▸ h.outputFits) hfirst
  have hpos : (u.srcCursor + BitVec.ofNat 32 j).toNat = u.srcCursor.toNat + j := by
    rw [BitVec.toNat_add, BitVec.toNat_ofNat]
    omega
  refine nearer_of_error hresult (ended_of_raised hresult h.src h.srcLen (h.geometry_unpack hp) hpos ?_ ?_) ?_
  · show u.srcCursor.toNat = 8 * ((u.srcCursor.toNat + j) / 8)
    omega
  · show u.dstCursor.toNat = 5 * ((u.srcCursor.toNat + j) / 8)
    omega
  · rw [stepsLeft_unpack hp]
    omega

theorem Underway.nearer_of_finish (h : Underway s u) (hp : u.phase = .unpack) (hend : u.srcCursor = u.contentLen) :
    Nearer s u { u with phase := .done } := by
  have hinv := (phaseFacts_unpack hp).mp h.facts
  have hcontent := h.contentLenOf_unpack hp
  have hdst : u.dstCursor = u.dstLen := (doneInv_finished hinv hend).dstCursor
  have hgood : firstBad (contentOf (Safety.textOf s)) = none := by
    have hall : (contentOf (Safety.textOf u)).take u.srcCursor.toNat = contentOf (Safety.textOf u) :=
      List.take_of_length_le (by rw [length_contentOf, h.textOf, hcontent, hend])
    rw [← h.textOf, ← hall]
    exact firstBad_take_contentOf hinv.accepted
  have hresult : resultOf s = .ok (bytesOfBits u.dstLen.toNat (contentBits (contentOf (Safety.textOf s)))) :=
    decodeText_eq_ok.mpr ⟨_, h.decodedSize?_unpack hp, h.cfg ▸ h.outputFits, hgood, rfl⟩
  have hstored := h.stored
  rw [hdst] at hstored
  refine .inr ⟨⟨rfl, h.src, h.srcLen, { h.geometry_unpack hp with }, ?_⟩, ?_, fun _ => ?_⟩
  · rw [hresult]
    constructor
    case phase => rfl
    case status => exact status_of_done rfl
    case errCode => exact h.errCode
    case errPos => exact h.errPos
    case length => exact (length_bytesOfBits _ _).symm
    case bytes => rw [length_bytesOfBits]; exact hstored.output
    case beyond => rw [length_bytesOfBits]; exact hstored.beyond
    case srcCursor => exact hend
    case dstCursor => exact hdst
  · rw [stepsLeft_unpack hp]
    omega
  · rw [stepsLeft_unpack hp, hcontent, hend, Nat.sub_self]
    rfl

/-! ### From START to the end -/

/-- Every step of the block brings a transaction nearer to its end. -/
theorem BlockEffect.nearer (heffect : BlockEffect u t) (h : Underway s u) : Nearer s u t := by
  have hfacts := heffect.phaseFacts h.facts
  cases heffect with
  | rest hrest => cases hrest.symm.trans h.busy
  | scanAll hp h0 => exact h.nearer_of_scanEnded hp (.scanAll hp h0)
  | scanEnd hscan hc => exact h.nearer_of_scanEnded hscan.phase (.scanEnd hscan hc)
  | scanPad hscan hc =>
    refine nearer_of_scanned hscan.phase { h with facts := hfacts } hscan.phase ?_
    rw [padScanned_scanIdx, hscan.toNat_sub_one, ← hscan.toNat_pos]
  | scanLf hscan hc =>
    refine nearer_of_scanned hscan.phase { h with facts := hfacts } hscan.phase ?_
    rw [lfScanned_scanIdx, hscan.toNat_sub_one, ← hscan.toNat_pos]
  | badLength hp hsize =>
    exact h.nearer_of_geom_error hp (decodeText_of_badLength ((h.decodedSize?_geom hp).trans hsize)) rfl
  | noRoom size hp hsize hcap =>
    have hresult : resultOf s = .error .allocationFailure :=
      decodeText_eq_allocationFailure.mpr ⟨size, (h.decodedSize?_geom hp).trans hsize, h.cfg ▸ hcap⟩
    exact h.nearer_of_geom_error hp hresult rfl
  | allocate size hp hsize hcap => exact h.nearer_of_allocate hp hcap (.allocate size hp hsize hcap)
  | badCharacter j hp hmore hbad => exact h.nearer_of_badCharacter hp hmore hbad
  | quantum hp hmore hgood hread hfits =>
    exact h.nearer_of_quantum hp hmore hfits (.quantum hp hmore hgood hread hfits)
  | finish hp hend => exact h.nearer_of_finish hp hend

theorem underway_started (hready : Ready s) : Underway s s.started where
  busy := rfl
  cfg := rfl
  src := rfl
  srcLen := rfl
  errCode := rfl
  errPos := rfl
  facts := phaseFacts_started s
  inputFits := hready.fits
  outputFits := Nat.zero_le _
  quanta := nofun
  trailing := nofun
  stored := ⟨nofun, fun _ _ => rfl⟩

/-- `k` steps lead from `u` to `t`, and the block is busy before each. -/
structure BusyRun (k : Nat) (u t : State) : Prop where
  run : core.run k u = .next t
  busy : ∀ j < k, ∃ w, core.run j u = .next w ∧ w.busy = true

theorem BusyRun.zero (u : State) : BusyRun 0 u u := ⟨rfl, nofun⟩

theorem BusyRun.succ {k : Nat} {w : State} (hbusy : u.busy = true) (halone : u.inputs = []) (heffect : BlockEffect u w)
    (h : BusyRun k w t) : BusyRun (k + 1) u t := by
  refine ⟨(run_alone_succ halone).mpr ⟨w, heffect, h.run⟩, fun j hj => ?_⟩
  cases j with
  | zero => exact ⟨u, rfl, hbusy⟩
  | succ j =>
    obtain ⟨x, hx, hxbusy⟩ := h.busy j (by omega)
    exact ⟨x, (run_alone_succ halone).mpr ⟨w, heffect, hx⟩, hxbusy⟩

/-- A transaction ends after the steps it has left, or sooner in an error (43 R162). -/
theorem Underway.ends {n : Nat} (h : Underway s u) (halone : u.inputs = []) (hn : stepsLeft s u = n) :
    ∃ k t, k ≤ n ∧ BusyRun k u t ∧ Ended s t ∧ ((∃ out, resultOf s = .ok out) → k = n) := by
  induction n generalizing u with
  | zero =>
    obtain ⟨t, heffect⟩ := exists_blockEffect h.facts (fun _ => h.inputFits) h.outputFits
    obtain ⟨-, hsteps⟩ | ⟨-, hsteps, -⟩ := heffect.nearer h <;> omega
  | succ n ih =>
    obtain ⟨w, heffect⟩ := exists_blockEffect h.facts (fun _ => h.inputFits) h.outputFits
    obtain ⟨hw, hsteps⟩ | ⟨hended, -, hexact⟩ := heffect.nearer h
    · obtain ⟨k, t, hk, hrun, hended, hexact⟩ := ih hw (heffect.frame.inputs.trans halone) (by omega)
      exact ⟨k + 1, t, by omega, hrun.succ h.busy halone heffect, hended, fun hok => congrArg (· + 1) (hexact hok)⟩
    · exact ⟨1, w, by omega, (BusyRun.zero w).succ h.busy halone heffect, hended, fun hok => (hexact hok).symm.trans hn⟩

/-- What a transaction has left after START: the trailer and the end of the scan, GEOM, the quanta and the end. -/
theorem stepsLeft_started (s : State) : stepsLeft s s.started =
    ((trailerOf (textOf s)).length + 1) + 1 + (quantaOf (contentLenOf (textOf s)) + 1) := by
  have hlen : contentLenOf (textOf s) = s.srcLen.toNat - (trailerOf (textOf s)).length := by
    rw [contentLenOf, length_textOf]
  have hle : (trailerOf (textOf s)).length ≤ s.srcLen.toNat :=
    length_textOf s ▸ (List.rtakeWhile_suffix isTrailerByte (textOf s)).length_le
  rw [stepsLeft_scan rfl, started_scanIdx]
  omega

/-- No quantum is empty. -/
theorem quantaOf_le (c : Nat) : quantaOf c ≤ c := by
  unfold quantaOf
  split <;> omega

theorem stepsLeft_started_le (s : State) : stepsLeft s s.started ≤ s.srcLen.toNat + 3 := by
  have hle := contentLenOf_le_length (textOf s)
  have hquanta := quantaOf_le (contentLenOf (textOf s))
  rw [length_textOf] at hle
  rw [stepsLeft_scan rfl, started_scanIdx]
  omega

end Sys2Proof.Laws

namespace Sys2Proof.Proofs

open Sys2Proof.Machine Sys2Proof.Safety Sys2Proof.Laws

/-- Settles O47: START puts a transaction under way, and the state at its end reports the result. -/
theorem machineAgreesWithDecode : Obligations.MachineAgreesWithDecode := by
  intro s hready
  obtain ⟨k, t, hk, hrun, ⟨hrest, hreported⟩, -⟩ := (underway_started hready).ends hready.alone rfl
  exact ⟨_, exec_cmdStart_of_ready hready, k, hk.trans (stepsLeft_started_le s), t, hrun.run, hrest, hreported⟩

/-- Settles O48: the block is busy until the end, which a successful transaction reaches after all the steps it has
left. -/
theorem transactionsEndInTheStatedSteps : Obligations.TransactionsEndInTheStatedSteps := by
  intro s s0 hready hstart
  cases (exec_cmdStart_of_ready hready).symm.trans hstart
  obtain ⟨k, t, hk, ⟨hrun, hbusy⟩, ⟨hrest, -⟩, hexact⟩ := (underway_started hready).ends hready.alone rfl
  exact ⟨k, hk.trans (stepsLeft_started_le s), ⟨t, hrun, hrest⟩, hbusy, fun out hok =>
    (hexact ⟨out, hok⟩).trans (stepsLeft_started s)⟩

end Sys2Proof.Proofs
end

section
/-! PROOFS. How the block enters ERROR, when the normative function reports which error, and the statements of the family
60_exceptions.md. -/

namespace Sys2Proof.Laws

open Sys2Proof.Machine Sys2Proof.Safety Sys2Proof.Claims

/-! ### Entry to ERROR (60 R186) -/

/-- The three entries to ERROR: from GEOM with an error that has no position, or from UNPACK with a bad character; the
counts, the cursors and the input stay. -/
theorem BlockEffect.error_entry {s t : State} (h : BlockEffect s t) (hp : s.phase ≠ .error) (herr : t.phase = .error) :
    KeepsInputSide s t ∧ t.srcCursor = s.srcCursor ∧ t.dstCursor = s.dstCursor ∧
      ∃ e pos, Raised e pos t ∧ e ≠ .none ∧ (e ≠ .invalidCharacter → pos = 0) ∧
        ((s.phase = .geom ∧ e ≠ .invalidCharacter) ∨ (s.phase = .unpack ∧ e = .invalidCharacter)) := by
  cases h with
  | badLength hgeom | noRoom _ hgeom =>
    exact ⟨⟨rfl, rfl, rfl, rfl, rfl, rfl, rfl⟩, rfl, rfl, _, _, raised_stepEnded (measured s) _ 0#32, by decide,
      fun _ => rfl, .inl ⟨hgeom, by decide⟩⟩
  | badCharacter _ hunpack =>
    exact ⟨⟨rfl, rfl, rfl, rfl, rfl, rfl, rfl⟩, rfl, rfl, _, _, raised_stepEnded s _ _, by decide, (absurd rfl ·),
      .inr ⟨hunpack, rfl⟩⟩
  | rest => exact absurd herr hp
  | scanPad hscan | scanLf hscan => cases hscan.phase.symm.trans herr
  | quantum hunpack => cases hunpack.symm.trans herr
  | scanAll | scanEnd | allocate | finish => cases herr

/-! ### The errors of the normative function (60 R184, R185) -/

theorem firstBad_eq_findIdx? (cs : List Byte) : firstBad cs = cs.findIdx? fun c => !isContentByte c := by
  induction cs with
  | nil => rfl
  | cons c cs ih => cases hc : isContentByte c <;> simp [firstBad, List.findIdx?_cons, hc, ih]

/-- The reported index is the least one with a byte that is not acceptable (60 R185). -/
theorem firstBad_eq_some {cs : List Byte} {p : Nat} :
    firstBad cs = some p ↔ (∃ c, cs[p]? = some c ∧ isContentByte c = false) ∧
      ∀ q < p, ∃ c, cs[q]? = some c ∧ isContentByte c = true := by
  rw [firstBad_eq_findIdx?, List.findIdx?_eq_some_iff_getElem]
  constructor
  · rintro ⟨hp, hbad, hgood⟩
    refine ⟨⟨cs[p], List.getElem?_eq_getElem hp, by simpa using hbad⟩, fun q hq => ?_⟩
    exact ⟨cs[q], List.getElem?_eq_getElem (hq.trans hp), by simpa using hgood q hq⟩
  · rintro ⟨⟨c, hc, hbad⟩, hgood⟩
    obtain ⟨hp, rfl⟩ := List.getElem?_eq_some_iff.mp hc
    refine ⟨hp, by simpa using hbad, fun q hq => ?_⟩
    obtain ⟨_, hd, hok⟩ := hgood q hq
    obtain ⟨_, rfl⟩ := List.getElem?_eq_some_iff.mp hd
    simpa using hok

/-- The length check fails exactly where no size is known (60 R182). -/
theorem decodeText_eq_badLength {cap : Nat} {text : List Byte} :
    decodeText cap text = .error .invalidTrailingQuantumLength ↔ decodedSize? (contentLenOf text) = none := by
  unfold decodeText
  cases decodedSize? (contentLenOf text) with
  | none => simp
  | some size =>
    by_cases hcap : cap < size
    · simp [hcap]
    · cases firstBad (contentOf text) <;> simp [hcap]

/-- The character check fails exactly where a size is known, DST_CAP is not below it and a character is bad (60 R181). -/
theorem decodeText_eq_badCharacter {cap p : Nat} {text : List Byte} :
    decodeText cap text = .error (.invalidCharacter p) ↔
      ∃ size, decodedSize? (contentLenOf text) = some size ∧ size ≤ cap ∧ firstBad (contentOf text) = some p := by
  unfold decodeText
  cases decodedSize? (contentLenOf text) with
  | none => simp
  | some size =>
    by_cases hcap : cap < size
    · simp [hcap]
    · cases firstBad (contentOf text) <;> simp [hcap, Nat.le_of_not_lt hcap]

/-- A size that is known is the table's, at a valid length (40 R98). -/
theorem exists_decodedSize? {c : Nat} {p : Nat → Prop} :
    (∃ size, decodedSize? c = some size ∧ p size) ↔ c % 8 ∉ [1, 3, 6] ∧ p (5 * c / 8) := by
  simp only [decodedSize?_eq_some, and_assoc, exists_and_left, exists_eq_left]

end Sys2Proof.Laws

namespace Sys2Proof.Proofs

open Sys2Proof.Machine Sys2Proof.Safety Sys2Proof.Claims Sys2Proof.Laws

/-- Settles O45: each of the block's three entries to ERROR is an error entry of 60 R186. -/
theorem errorEntryRecordsTheError : Obligations.ErrorEntryRecordsTheError := by
  intro s t hmoves hp hstep herr
  obtain ⟨rest, heffect⟩ := step_of_blockMoves hmoves hstep
  obtain ⟨hkeeps, hsrcCursor, hdstCursor, e, pos, hraised, hsome, hpos, hfrom⟩ := heffect.error_entry hp herr
  obtain rfl := hraised.errCode
  exact ⟨hsome, fun hother => BitVec.eq_of_toNat_eq (hraised.errPos.trans (hpos hother)), hraised.dstLen, hraised.dst,
    hkeeps.padCount, hkeeps.lfCount, hsrcCursor, hdstCursor, hkeeps.srcLen, hkeeps.src, hfrom⟩

/-- Settles O52: `decode` checks the length, then the capacity, then the characters from the first on. -/
theorem errorsComeInTheFixedPriority : Obligations.ErrorsComeInTheFixedPriority := by
  intro cap text
  refine ⟨decodeText_eq_badLength.trans decodedSize?_eq_none,
    decodeText_eq_allocationFailure.trans exists_decodedSize?, fun p => ?_⟩
  rw [decodeText_eq_badCharacter, exists_decodedSize?, firstBad_eq_some]

end Sys2Proof.Proofs
end

section
/-! PROOFS. What START does while BUSY and what the registers read after a reset, and the statements of the family
70_reset_and_hazards.md that follow. -/

namespace Sys2Proof.Laws

open Sys2Proof.Machine

/-- START is ignored while BUSY, whatever SRC_LEN is (43 R152). -/
theorem exec_cmdStart_of_busy {s : State} (h : s.busy = true) : exec .cmdStart s = .next s :=
  if_pos h

/-- The three flags are 0 after a reset, PHASE being IDLE (10 R15, R18). -/
theorem status_resetApplied (s : State) : s.resetApplied.status = 0#3 := by
  simp [State.status, State.busy, State.done, State.err]

/-- Every host-visible register reads 0 after a reset (10 R32, 70 R210). -/
theorem regValue_resetApplied (s : State) (n : Nat) : s.resetApplied.regValue n = 0#32 := by
  unfold State.regValue
  split
  -- STATUS, ERR_CODE and TRAILING_LEN are narrower than the bus.
  case h_1 => rw [status_resetApplied, BitVec.setWidth_zero]
  case h_2 => rw [resetApplied_errCode, ErrCode.code, BitVec.setWidth_zero]
  case h_10 => rw [resetApplied_trailingLen, BitVec.setWidth_zero]
  all_goals rfl

end Sys2Proof.Laws

namespace Sys2Proof.Proofs

open Sys2Proof.Machine Sys2Proof.Laws

/-- Settles O26: a CTRL write runs the command its word decodes to, and both commands are ignored while BUSY. -/
theorem busyBlockLosesCommands : Obligations.BusyBlockLosesCommands := by
  intro s hbusy
  refine ⟨exec_cmdStart_of_busy hbusy, (clearReturnsToIdle s).2 hbusy, fun word rest hin => ?_⟩
  have hbusy' : ({ s with inputs := rest } : State).busy = true := hbusy
  obtain ⟨-, hstart, hclear, hreserved⟩ := ctrlWritesRunTheDecodedCommand s word rest hin
  by_cases h1 : word = 1#32
  · exact (hstart h1).trans (exec_cmdStart_of_busy hbusy')
  · by_cases h2 : word = 2#32
    · exact (hclear h2).trans ((clearReturnsToIdle _).2 hbusy')
    · exact hreserved h1 h2

/-- Settles O38: what a reset leaves is 0, IDLE and unspecified whatever registers and buffers it is applied to. -/
theorem resetAbandonsAnyState : Obligations.ResetAbandonsAnyState := by
  intro s rest hin
  exact ⟨State.resetApplied { s with inputs := rest }, step_pending hin, resetApplied_phase _, busy_resetApplied _,
    regValue_resetApplied _, fun i => ⟨byte?_unspecified _ i, byte?_unspecified _ i⟩, resetApplied_cfg _,
    resetApplied_inputs _⟩

end Sys2Proof.Proofs
end

section
/-! PROOFS. What a symbol with a value does in each phase and which value the k-th row of a range presents, and the
statement of the family 'other'. -/

namespace Sys2Proof.Laws

open Sys2Proof.Machine Sys2Proof.Claims

/-- A symbol with a value is no trailer byte, so the scan ends at it, with bytes left or none (40 R83). -/
theorem scanSymbol_value {x : Symbol} {v : Sym} (h : x.value? = some v) (s : State) : scanSymbol x s = s.scanEnded := by
  unfold scanSymbol
  split
  case isTrue => rfl
  case isFalse => cases x <;> simp [Symbol.value?, Symbol.cls] at h ⊢

/-- The effect of a symbol with a value, in every phase (41 R117, log entry 10). -/
theorem presentSymbol_value {x : Symbol} {v : Sym} (h : x.value? = some v) (s : State) :
    presentSymbol x s = .next (afterValue v s) := by
  unfold afterValue
  split
  case h_1 hp => exact (presentSymbol_unpack hp x).trans (congrArg _ (contentSymbol_value h s))
  case h_2 hp => exact (presentSymbol_scan hp x).trans (congrArg _ (scanSymbol_value h s))
  all_goals exact presentSymbol_elsewhere (by simp [*]) (by simp [*]) x

theorem getElem?_codeRows_eq_some {lo n k : Nat} {i : Instr} :
    (codeRows lo n)[k]? = some i ↔ k < n ∧ i = decodeSym8 (BitVec.ofNat 8 (lo + k)) := by
  by_cases hk : k < n
  · simp [codeRows, hk, eq_comm]
  · simp [codeRows, hk]

/-- In a range whose codes have the values from `base` on, the row of the k-th code delivers `k + base`. -/
theorem exec_codeRows {lo n base k : Nat} {i : Instr} (hbytes : lo + n ≤ 256)
    (hvalue : ∀ c : Byte, lo ≤ c.toNat → c.toNat < lo + n → ∃ x, valueOf c = some x ∧ x.toNat = c.toNat - lo + base)
    (hrow : (codeRows lo n)[k]? = some i) (s : State) : exec i s = .next (afterValue (BitVec.ofNat 5 (k + base)) s) := by
  obtain ⟨hk, rfl⟩ := getElem?_codeRows_eq_some.mp hrow
  have hcode : (BitVec.ofNat 8 (lo + k)).toNat = lo + k := Nat.mod_eq_of_lt (by omega)
  obtain ⟨x, hx, hnat⟩ := hvalue (BitVec.ofNat 8 (lo + k)) (by omega) (by omega)
  have hk' : x.toNat = k + base := by omega
  obtain rfl : x = BitVec.ofNat 5 (k + base) := by simp [← hk']
  rw [exec_decodeSym8, presentSymbol_value hx]

end Sys2Proof.Laws

namespace Sys2Proof.Proofs

open Sys2Proof.Machine Sys2Proof.Laws

/-- Settles O5: the three lists are the rows of three code ranges, whose values start at 0, 0 and 26. -/
theorem valueRowsDeliverTheirValue : Obligations.ValueRowsDeliverTheirValue := by
  obtain ⟨hupper, hlower⟩ := letterCodesHaveTheirClassAndValue
  obtain ⟨hdigit, -⟩ := otherCodesHaveTheirClass
  refine ⟨fun k i hrow => ?upper, fun k i hrow => ?lower, fun k i hrow => ?digit⟩
  case upper =>
    exact exec_codeRows (base := 0) (by decide)
      (fun c hlo hhi => let ⟨_, hvalue, _⟩ := hupper c hlo (by omega); hvalue) (codeRows_upper ▸ hrow)
  case lower =>
    exact exec_codeRows (base := 0) (by decide)
      (fun c hlo hhi => let ⟨_, hvalue, _⟩ := hlower c hlo (by omega); hvalue) (codeRows_lower ▸ hrow)
  case digit =>
    rw [Nat.add_comm 26 k]
    exact exec_codeRows (by decide)
      (fun c hlo hhi => let ⟨_, hvalue, _⟩ := hdigit c hlo (by omega); hvalue) (codeRows_digit ▸ hrow)

end Sys2Proof.Proofs
end
